-- ==== Sys2Proof/Word.lean ====
section
/-! DEFINITION. The bit vectors the manual treats as bits: bytes, halfwords, words, doublewords and quadwords
(00_scope rules R8, R10, R17). Only the types stand here; everything computed from them stands in files whose bodies
can be mended. -/

namespace Sys2Proof

/-- 8 bits (R17). -/
abbrev Byte := BitVec 8

/-- 16 bits (R17). -/
abbrev Half := BitVec 16

/-- 32 bits: the width of r registers, PC, nPC and addresses (R7, XLEN). -/
abbrev Word := BitVec 32

/-- 64 bits (R17). -/
abbrev Dword := BitVec 64

/-- 128 bits (R17). -/
abbrev Quad := BitVec 128

/-- The number of a register in a five-bit instruction field. -/
abbrev RegNum := BitVec 5

/-- An address space identifier (20_memory rule R70). -/
abbrev Asi := BitVec 8

end Sys2Proof
end

