-- ==== Sys2Proof/Config.lean ====
section
/-! DEFINITION. What an implementation fixes (00_scope rule R7) as plain data, and the free values: opaque constants
without a body, of which nothing can be proved (log 5, log 12, log 19). -/

namespace Sys2Proof

/-- SDIV_NEG_OVF: the overflow condition of a negative signed quotient (45 R267, D21). -/
inductive SdivMethod where
  | a
  | b
  deriving DecidableEq, Repr

/-- FLUSH_TRAP: what FLUSH does (48 R398, D23). -/
inductive FlushMode where
  | executes
  | unimplementedFlush
  | illegalInstruction
  deriving DecidableEq, Repr

/-- UNUSED_BITS_POLICY: what a nonzero unused or reserved instruction field does (30 R120, D15). -/
inductive UnusedBits where
  | ignore
  | refuse
  deriving DecidableEq, Repr

/-- Part of FP_NUMERICS (49 R412, D27): whether an untrapped NaN or invalid integer result is the suggested one or open. -/
inductive NanPolicy where
  | suggested
  | unconstrained
  deriving DecidableEq, Repr

/-- Part of FP_NUMERICS (49 R412, D27): when a result counts as tiny. -/
inductive Tininess where
  | beforeRounding
  | afterRounding
  deriving DecidableEq, Repr

/-- What STDCQ does on a coprocessor without a queue (41 R188, I8; log 20). -/
inductive StdcqNoQueue where
  | cpException
  | illegalInstruction
  deriving DecidableEq, Repr

/-- The kinds of access the oracle `MemFault` is asked about (20 R84). -/
inductive AccessKind where
  | fetch
  | read
  | write
  | atomic
  /-- The register file: a read of an r register (60 R471). -/
  | register
  deriving DecidableEq, Repr

/-- The access traps the oracle can answer with (20 R84). -/
inductive AccessTrap where
  | instructionAccessException
  | instructionAccessError
  | dataAccessException
  | dataAccessError
  | dataStoreError
  | rRegisterAccessError
  deriving DecidableEq, Repr

/-- One answer of the oracle `MemFault` (20 R84; log 14): accesses of this kind, address space, width and mode whose
address lies in `lo .. hi` raise `trap`. `none` stands for any width and any mode. For a register access the address is the
number of the register's cell (`State.registerCell`), the space the one instructions are fetched from (log 36). -/
structure FaultRule where
  kind : AccessKind
  asi : Asi
  lo : Nat
  hi : Nat
  width : Option Nat
  supervisor : Option Bool
  trap : AccessTrap
  deriving DecidableEq, Repr

/-- An implemented ancillary state register 16 to 31 (ASR_IMPL, 10_state R39; log 12). -/
structure AsrSpec where
  num : RegNum
  privileged : Bool
  deriving DecidableEq, Repr

/-- The parameters of 00_scope rule R7. -/
structure Config where
  /-- NWINDOWS - 2: NWINDOWS is 2 to 32 (D2). -/
  windowsBeyondTwo : Fin 31
  /-- FPU_PRESENT (D19). -/
  fpuPresent : Bool
  /-- FQ_PRESENT (D19; log 17). -/
  fqPresent : Bool
  /-- CP_PRESENT (D20). -/
  cpPresent : Bool
  /-- CQ_PRESENT (D20). -/
  cqPresent : Bool
  /-- ODD_RD_TRAPS (D17). -/
  oddRdTraps : Bool
  /-- FREG_ALIGN_TRAPS (D18). -/
  fregAlignTraps : Bool
  /-- SDIV_NEG_OVF (D21). -/
  sdivNegOvf : SdivMethod
  /-- FLUSH_TRAP (D23). -/
  flushMode : FlushMode
  /-- ASR_IMPL (D24; log 12). -/
  asrs : List AsrSpec
  /-- HW_UNIMPLEMENTED: mnemonics of the opcode table (D16; log 28). -/
  unimplemented : List String
  /-- STFSR_ZEROES_FTT (D19). -/
  stfsrZeroesFtt : Bool
  /-- FP_NUMERICS: NaN and invalid integer results (D27; log 21). -/
  nanPolicy : NanPolicy
  /-- FP_NUMERICS: tininess (D27; log 22). -/
  tininess : Tininess
  /-- UNUSED_BITS_POLICY (D15; log 3). -/
  unusedBits : UnusedBits
  /-- PSR_IMPL (D7). -/
  psrImpl : BitVec 4
  /-- PSR_VER (D7). -/
  psrVer : BitVec 4
  /-- FSR_VER (D7). -/
  fsrVer : BitVec 3
  /-- The oracle MemFault (D25): the first rule that matches answers. -/
  memFaults : List FaultRule
  /-- Which address space is which bank of storage (20 R71, D8; log 16). -/
  banks : List (Asi × Nat)
  /-- Whether an instruction buffer can answer with old contents (70 R529; log 27). -/
  ibufPresent : Bool
  /-- Whether a WRPSR that changes PIL and sets ET may admit an interrupt at the old PIL (70 R526; log 8). -/
  pilQuirk : Bool
  /-- Whether STF, STDF and STFSR raise sequence_error while the FPU is in an exception state (60 R478, 41 R179; log 17). -/
  fpStoresSequenced : Bool
  /-- Whether STDFQ removes the entry it stores (41 R183; log 18). -/
  stdfqPops : Bool
  /-- Whether STDCQ is known to remove the entry it stores and to leave the rest of the queue; where it is not, what it makes of
  the queue is CP_SEMANTICS (41 R188; log 18). -/
  stdcqPops : Bool
  /-- STDCQ without a queue (41 R188; log 20). -/
  stdcqNoQueue : StdcqNoQueue
  deriving DecidableEq, Repr

/-- The defaults of R7 (log 4), but for `unusedBits` (log 3): eight windows, an FPU without a queue, no coprocessor, no
ancillary registers, the four architectural address spaces backed by one memory (20 R71), no access faults. -/
def Config.default : Config where
  windowsBeyondTwo := 6
  fpuPresent := true
  fqPresent := false
  cpPresent := false
  cqPresent := false
  oddRdTraps := true
  fregAlignTraps := true
  sdivNegOvf := .a
  flushMode := .executes
  asrs := []
  unimplemented := []
  stfsrZeroesFtt := false
  nanPolicy := .suggested
  tininess := .beforeRounding
  unusedBits := .ignore
  psrImpl := 0
  psrVer := 0
  fsrVer := 0
  memFaults := []
  banks := [(0x08, 0), (0x09, 0), (0x0A, 0), (0x0B, 0)]
  ibufPresent := false
  pilQuirk := false
  fpStoresSequenced := false
  stdfqPops := true
  stdcqPops := false
  stdcqNoQueue := .cpException

/-- NWINDOWS (R7, D2). -/
def Config.nWindows (c : Config) : Nat := c.windowsBeyondTwo.val + 2

/-- What a free value stands for: each draw of one step is told from the others by one of these (log 5). -/
inductive FreeItem where
  /-- PSR.icc inside a WRPSR window (70 R524). -/
  | icc
  /-- PSR.EC inside a WRPSR window. -/
  | ec
  /-- PSR.EF inside a WRPSR window. -/
  | ef
  /-- PSR.PIL inside a WRPSR window. -/
  | pil
  /-- PSR.S inside a WRPSR window. -/
  | s
  /-- PSR.PS inside a WRPSR window. -/
  | ps
  /-- PSR.ET inside a WRPSR window. -/
  | et
  /-- PSR.CWP inside a WRPSR window. -/
  | cwp
  /-- WIM inside a WRWIM window. -/
  | wim
  /-- TBR.TBA inside a WRTBR window. -/
  | tba
  /-- Y inside a WRY window. -/
  | y
  /-- An ancillary register inside a WRASR window. -/
  | asr
  /-- The contents of icc after a write inside a WRPSR window. -/
  | iccAfter
  /-- The contents of S after a write inside a WRPSR window. -/
  | sAfter
  /-- The contents of ET after a write inside a WRPSR window. -/
  | etAfter
  /-- The contents of CWP after a write inside a WRPSR window. -/
  | cwpAfter
  /-- The contents of Y after a write inside a WRY window. -/
  | yAfter
  /-- The old or the new CWP, for the window a trap writes (70 R525). -/
  | trapWindow
  /-- The old or the new CWP, for the CWP a trap leaves (70 R525). -/
  | trapCwp
  /-- The old or the new S (70 R525). -/
  | trapS
  /-- The old or the new TBA (70 R525). -/
  | trapTba
  /-- The spurious interrupt of 70 R526. -/
  | oldPil
  /-- The result of an FBfcc after an FPop2 (70 R527). -/
  | fbfcc
  /-- The fcc an FBfcc sees after an LDFSR (70 R528). -/
  | fcc
  /-- Which copy of a stale doubleword a fetch sees (70 R529). -/
  | fetchCopy
  /-- Which space a fetch after a RETT without a JMPL uses (70 R530). -/
  | fetchSpace
  /-- Y after a divide (70 R533). -/
  | divideY
  /-- The result of a reserved RDASR (48 R382). -/
  | rdasr
  /-- A reserved ancillary register after a WRASR (48 R391). -/
  | wrasr
  /-- The destination of a load that took a data access trap (20 R90). -/
  | loadDest
  /-- The second destination of such a load. -/
  | loadDest2
  /-- The first word of a doubleword store that took a data access trap (20 R90). -/
  | storeWord
  /-- An open floating-point result (49 R412). -/
  | fpResult
  /-- The exceptions of an open floating-point result. -/
  | fpExceptions
  /-- A new entry of the floating-point queue (10_state R45). -/
  | fqEntry
  /-- The entry STDCQ stores from an empty coprocessor queue (41 R188). -/
  | cqEntry
  deriving DecidableEq, Repr

/-- The free values: the n-th step's draw for an item (log 5). -/
opaque Config.free : Nat → FreeItem → BitVec 128

/-- The coprocessor as 10_state rule R47 names it. -/
structure Cp where
  /-- Coprocessor registers %c0 to %c31. -/
  regs : Vector Word 32
  /-- Coprocessor State Register. -/
  csr : Word
  /-- Coprocessor queue, front first. -/
  cq : List Dword
  /-- The condition bp_CP_cc tested by CBccc. -/
  cc : BitVec 2
  deriving DecidableEq, Repr, Inhabited

/-- CP_SEMANTICS of CPop1 and CPop2 (49 R460): whether it is CPop2, then rd, rs1, opc, rs2 (log 19). -/
opaque Config.cpOperate : Bool → RegNum → RegNum → BitVec 9 → RegNum → Cp → Cp

/-- A coprocessor load or store as the coprocessor sees it: the register it names, if any, and the value loaded, if any. -/
inductive CpMove where
  | ldc (rd : RegNum) (v : Word)
  | lddc (rd : RegNum) (v : Dword)
  | ldcsr (v : Word)
  | stc (rd : RegNum)
  | stdc (rd : RegNum)
  | stcsr
  | stdcq
  deriving DecidableEq, Repr

/-- CP_SEMANTICS of the coprocessor loads and stores (40 R157, 41 R184, D20): the coprocessor after one, but for what the rules
of the instruction say is moved (log 19). -/
opaque Config.cpMoved : CpMove → Cp → Cp

/-- CP_SEMANTICS of LDDC with an even rd (40 R159): the words the even and the odd register of the pair take (log 19). -/
opaque Config.cpLoadPair : RegNum → Dword → Word × Word

/-- CP_SEMANTICS of STDC with an even rd (41 R186): the doubleword stored for a register pair (log 19). -/
opaque Config.cpStorePair : RegNum → Word → Word → Dword

/-- CP_SEMANTICS of STDC with an odd rd (41 R186): the doubleword stored (log 19). -/
opaque Config.cpStoreOdd : RegNum → Cp → Dword

/-- The read function of an implemented ancillary register, of its contents, rd and insn[13:0] (48 R382; log 12). -/
opaque Config.asrRead : RegNum → Word → RegNum → BitVec 14 → Word

/-- The write function of an implemented ancillary register, of r[rs1], the second operand and insn[18:0] (48 R391). -/
opaque Config.asrWrite : RegNum → Word → Word → BitVec 19 → Word

end Sys2Proof
end

