-- ==== Sys2Proof/Syntax.lean ====
section
/-! DEFINITION. The instructions: one constructor for each row of the opcode table (30_encoding), in the table's order,
with the fields the row leaves to the programmer as typed operands (30 R102 to R110). Fields the manual calls unused or
reserved are no operand; UNIMP's reserved field and the ignored rd of LDFSR, STFSR, STDFQ, LDCSR, STCSR, STDCQ (I20) are,
because the manual lets software put any value there, and so are the bits of RDASR and WRASR whose interpretation is the
implementation's (48 R382, R391). -/

namespace Sys2Proof

/-- The second operand of format 3 (30 R105, R110): r[rs2] when i is 0, sign-extended simm13 when i is 1. -/
inductive Operand2 where
  | reg (rs2 : RegNum)
  | imm (simm13 : BitVec 13)
  deriving DecidableEq, Repr

/-- The operand of an alternate-space instruction: asi and rs2 when i is 0. With i = 1, which raises
illegal_instruction (30 R118), the low thirteen bits are kept as they are. -/
inductive AltOperand where
  | reg (asi : Asi) (rs2 : RegNum)
  | imm (low13 : BitVec 13)
  deriving DecidableEq, Repr

/-- The operand of WRASR: as a second operand, but the interpretation of insn[18:0] is the implementation's (48 R391), so
that bits 12:5 are kept when i is 0. -/
inductive AsrOperand where
  | reg (bits : BitVec 8) (rs2 : RegNum)
  | imm (simm13 : BitVec 13)
  deriving DecidableEq, Repr

/-- What a RDASR names: rs1, and bits 13:0, which are unused but of an implemented register the implementation's (48 R380,
R382). -/
structure AsrSource where
  rs1 : RegNum
  low : BitVec 14
  deriving DecidableEq, Repr

/-- The shift count (30 R106, 43 R225): r[rs2][4:0] when i is 0, shcnt when i is 1. -/
inductive ShiftCount where
  | reg (rs2 : RegNum)
  | imm (shcnt : BitVec 5)
  deriving DecidableEq, Repr

/-- The second operand of Ticc (30 R108): r[rs2] when i is 0, imm7 when i is 1. -/
inductive TrapOperand where
  | reg (rs2 : RegNum)
  | imm (imm7 : BitVec 7)
  deriving DecidableEq, Repr

/-- The instructions of the opcode table; each constructor's comment names its row and its rule. -/
inductive Instr where
  /-- NOP (R211). -/
  | nop
  /-- UNIMP (R397). -/
  | unimp (reserved : BitVec 5) (const22 : BitVec 22)
  /-- SETHI (R210). -/
  | sethi (rd : RegNum) (imm22 : BitVec 22)
  /-- BA (R285). -/
  | ba (a : Bool) (disp22 : BitVec 22)
  /-- BN (R286). -/
  | bn (a : Bool) (disp22 : BitVec 22)
  /-- BNE (R287). -/
  | bne (a : Bool) (disp22 : BitVec 22)
  /-- BE (R288). -/
  | be (a : Bool) (disp22 : BitVec 22)
  /-- BG (R289). -/
  | bg (a : Bool) (disp22 : BitVec 22)
  /-- BLE (R290). -/
  | ble (a : Bool) (disp22 : BitVec 22)
  /-- BGE (R291). -/
  | bge (a : Bool) (disp22 : BitVec 22)
  /-- BL (R292). -/
  | bl (a : Bool) (disp22 : BitVec 22)
  /-- BGU (R293). -/
  | bgu (a : Bool) (disp22 : BitVec 22)
  /-- BLEU (R294). -/
  | bleu (a : Bool) (disp22 : BitVec 22)
  /-- BCC (R295). -/
  | bcc (a : Bool) (disp22 : BitVec 22)
  /-- BCS (R296). -/
  | bcs (a : Bool) (disp22 : BitVec 22)
  /-- BPOS (R297). -/
  | bpos (a : Bool) (disp22 : BitVec 22)
  /-- BNEG (R298). -/
  | bneg (a : Bool) (disp22 : BitVec 22)
  /-- BVC (R299). -/
  | bvc (a : Bool) (disp22 : BitVec 22)
  /-- BVS (R300). -/
  | bvs (a : Bool) (disp22 : BitVec 22)
  /-- FBA (R303). -/
  | fba (a : Bool) (disp22 : BitVec 22)
  /-- FBN (R304). -/
  | fbn (a : Bool) (disp22 : BitVec 22)
  /-- FBU (R305). -/
  | fbu (a : Bool) (disp22 : BitVec 22)
  /-- FBG (R306). -/
  | fbg (a : Bool) (disp22 : BitVec 22)
  /-- FBUG (R307). -/
  | fbug (a : Bool) (disp22 : BitVec 22)
  /-- FBL (R308). -/
  | fbl (a : Bool) (disp22 : BitVec 22)
  /-- FBUL (R309). -/
  | fbul (a : Bool) (disp22 : BitVec 22)
  /-- FBLG (R310). -/
  | fblg (a : Bool) (disp22 : BitVec 22)
  /-- FBNE (R311). -/
  | fbne (a : Bool) (disp22 : BitVec 22)
  /-- FBE (R312). -/
  | fbe (a : Bool) (disp22 : BitVec 22)
  /-- FBUE (R313). -/
  | fbue (a : Bool) (disp22 : BitVec 22)
  /-- FBGE (R314). -/
  | fbge (a : Bool) (disp22 : BitVec 22)
  /-- FBUGE (R315). -/
  | fbuge (a : Bool) (disp22 : BitVec 22)
  /-- FBLE (R316). -/
  | fble (a : Bool) (disp22 : BitVec 22)
  /-- FBULE (R317). -/
  | fbule (a : Bool) (disp22 : BitVec 22)
  /-- FBO (R318). -/
  | fbo (a : Bool) (disp22 : BitVec 22)
  /-- CBA (R321). -/
  | cba (a : Bool) (disp22 : BitVec 22)
  /-- CBN (R322). -/
  | cbn (a : Bool) (disp22 : BitVec 22)
  /-- CB3 (R323). -/
  | cb3 (a : Bool) (disp22 : BitVec 22)
  /-- CB2 (R324). -/
  | cb2 (a : Bool) (disp22 : BitVec 22)
  /-- CB23 (R325). -/
  | cb23 (a : Bool) (disp22 : BitVec 22)
  /-- CB1 (R326). -/
  | cb1 (a : Bool) (disp22 : BitVec 22)
  /-- CB13 (R327). -/
  | cb13 (a : Bool) (disp22 : BitVec 22)
  /-- CB12 (R328). -/
  | cb12 (a : Bool) (disp22 : BitVec 22)
  /-- CB123 (R329). -/
  | cb123 (a : Bool) (disp22 : BitVec 22)
  /-- CB0 (R330). -/
  | cb0 (a : Bool) (disp22 : BitVec 22)
  /-- CB03 (R331). -/
  | cb03 (a : Bool) (disp22 : BitVec 22)
  /-- CB02 (R332). -/
  | cb02 (a : Bool) (disp22 : BitVec 22)
  /-- CB023 (R333). -/
  | cb023 (a : Bool) (disp22 : BitVec 22)
  /-- CB01 (R334). -/
  | cb01 (a : Bool) (disp22 : BitVec 22)
  /-- CB013 (R335). -/
  | cb013 (a : Bool) (disp22 : BitVec 22)
  /-- CB012 (R336). -/
  | cb012 (a : Bool) (disp22 : BitVec 22)
  /-- CALL (R350). -/
  | call (disp30 : BitVec 30)
  /-- LDSB (R141). -/
  | ldsb (rd rs1 : RegNum) (operand : Operand2)
  /-- LDSH (R142). -/
  | ldsh (rd rs1 : RegNum) (operand : Operand2)
  /-- LDUB (R143). -/
  | ldub (rd rs1 : RegNum) (operand : Operand2)
  /-- LDUH (R144). -/
  | lduh (rd rs1 : RegNum) (operand : Operand2)
  /-- LD (R145). -/
  | ld (rd rs1 : RegNum) (operand : Operand2)
  /-- LDD (R146). -/
  | ldd (rd rs1 : RegNum) (operand : Operand2)
  /-- LDSBA (R147). -/
  | ldsba (rd rs1 : RegNum) (operand : AltOperand)
  /-- LDSHA (R148). -/
  | ldsha (rd rs1 : RegNum) (operand : AltOperand)
  /-- LDUBA (R149). -/
  | lduba (rd rs1 : RegNum) (operand : AltOperand)
  /-- LDUHA (R150). -/
  | lduha (rd rs1 : RegNum) (operand : AltOperand)
  /-- LDA (R151). -/
  | lda (rd rs1 : RegNum) (operand : AltOperand)
  /-- LDDA (R152). -/
  | ldda (rd rs1 : RegNum) (operand : AltOperand)
  /-- LDF (R154). -/
  | ldf (rd rs1 : RegNum) (operand : Operand2)
  /-- LDDF (R155). -/
  | lddf (rd rs1 : RegNum) (operand : Operand2)
  /-- LDFSR (R156). -/
  | ldfsr (rd rs1 : RegNum) (operand : Operand2)
  /-- LDC (R158). -/
  | ldc (rd rs1 : RegNum) (operand : Operand2)
  /-- LDDC (R159). -/
  | lddc (rd rs1 : RegNum) (operand : Operand2)
  /-- LDCSR (R160). -/
  | ldcsr (rd rs1 : RegNum) (operand : Operand2)
  /-- STB (R171). -/
  | stb (rd rs1 : RegNum) (operand : Operand2)
  /-- STH (R172). -/
  | sth (rd rs1 : RegNum) (operand : Operand2)
  /-- ST (R173). -/
  | st (rd rs1 : RegNum) (operand : Operand2)
  /-- STD (R174). -/
  | std (rd rs1 : RegNum) (operand : Operand2)
  /-- STBA (R175). -/
  | stba (rd rs1 : RegNum) (operand : AltOperand)
  /-- STHA (R176). -/
  | stha (rd rs1 : RegNum) (operand : AltOperand)
  /-- STA (R177). -/
  | sta (rd rs1 : RegNum) (operand : AltOperand)
  /-- STDA (R178). -/
  | stda (rd rs1 : RegNum) (operand : AltOperand)
  /-- STF (R180). -/
  | stf (rd rs1 : RegNum) (operand : Operand2)
  /-- STDF (R181). -/
  | stdf (rd rs1 : RegNum) (operand : Operand2)
  /-- STFSR (R182). -/
  | stfsr (rd rs1 : RegNum) (operand : Operand2)
  /-- STDFQ (R183). -/
  | stdfq (rd rs1 : RegNum) (operand : Operand2)
  /-- STC (R185). -/
  | stc (rd rs1 : RegNum) (operand : Operand2)
  /-- STDC (R186). -/
  | stdc (rd rs1 : RegNum) (operand : Operand2)
  /-- STCSR (R187). -/
  | stcsr (rd rs1 : RegNum) (operand : Operand2)
  /-- STDCQ (R188). -/
  | stdcq (rd rs1 : RegNum) (operand : Operand2)
  /-- LDSTUB (R201). -/
  | ldstub (rd rs1 : RegNum) (operand : Operand2)
  /-- LDSTUBA (R202). -/
  | ldstuba (rd rs1 : RegNum) (operand : AltOperand)
  /-- SWAP (R203). -/
  | swap (rd rs1 : RegNum) (operand : Operand2)
  /-- SWAPA (R204). -/
  | swapa (rd rs1 : RegNum) (operand : AltOperand)
  /-- AND (R213). -/
  | and (rd rs1 : RegNum) (operand : Operand2)
  /-- ANDcc (R214). -/
  | andcc (rd rs1 : RegNum) (operand : Operand2)
  /-- ANDN (R215). -/
  | andn (rd rs1 : RegNum) (operand : Operand2)
  /-- ANDNcc (R216). -/
  | andncc (rd rs1 : RegNum) (operand : Operand2)
  /-- OR (R217). -/
  | or (rd rs1 : RegNum) (operand : Operand2)
  /-- ORcc (R218). -/
  | orcc (rd rs1 : RegNum) (operand : Operand2)
  /-- ORN (R219). -/
  | orn (rd rs1 : RegNum) (operand : Operand2)
  /-- ORNcc (R220). -/
  | orncc (rd rs1 : RegNum) (operand : Operand2)
  /-- XOR (R221). -/
  | xor (rd rs1 : RegNum) (operand : Operand2)
  /-- XORcc (R222). -/
  | xorcc (rd rs1 : RegNum) (operand : Operand2)
  /-- XNOR (R223). -/
  | xnor (rd rs1 : RegNum) (operand : Operand2)
  /-- XNORcc (R224). -/
  | xnorcc (rd rs1 : RegNum) (operand : Operand2)
  /-- SLL (R226). -/
  | sll (rd rs1 : RegNum) (count : ShiftCount)
  /-- SRL (R227). -/
  | srl (rd rs1 : RegNum) (count : ShiftCount)
  /-- SRA (R228). -/
  | sra (rd rs1 : RegNum) (count : ShiftCount)
  /-- ADD (R243). -/
  | add (rd rs1 : RegNum) (operand : Operand2)
  /-- ADDcc (R244). -/
  | addcc (rd rs1 : RegNum) (operand : Operand2)
  /-- ADDX (R245). -/
  | addx (rd rs1 : RegNum) (operand : Operand2)
  /-- ADDXcc (R246). -/
  | addxcc (rd rs1 : RegNum) (operand : Operand2)
  /-- TADDcc (R248). -/
  | taddcc (rd rs1 : RegNum) (operand : Operand2)
  /-- TADDccTV (R249). -/
  | taddcctv (rd rs1 : RegNum) (operand : Operand2)
  /-- SUB (R250). -/
  | sub (rd rs1 : RegNum) (operand : Operand2)
  /-- SUBcc (R251). -/
  | subcc (rd rs1 : RegNum) (operand : Operand2)
  /-- SUBX (R252). -/
  | subx (rd rs1 : RegNum) (operand : Operand2)
  /-- SUBXcc (R253). -/
  | subxcc (rd rs1 : RegNum) (operand : Operand2)
  /-- TSUBcc (R255). -/
  | tsubcc (rd rs1 : RegNum) (operand : Operand2)
  /-- TSUBccTV (R256). -/
  | tsubcctv (rd rs1 : RegNum) (operand : Operand2)
  /-- MULScc (R260). -/
  | mulscc (rd rs1 : RegNum) (operand : Operand2)
  /-- UMUL (R263). -/
  | umul (rd rs1 : RegNum) (operand : Operand2)
  /-- SMUL (R264). -/
  | smul (rd rs1 : RegNum) (operand : Operand2)
  /-- UMULcc (R265). -/
  | umulcc (rd rs1 : RegNum) (operand : Operand2)
  /-- SMULcc (R266). -/
  | smulcc (rd rs1 : RegNum) (operand : Operand2)
  /-- UDIV (R268). -/
  | udiv (rd rs1 : RegNum) (operand : Operand2)
  /-- SDIV (R269). -/
  | sdiv (rd rs1 : RegNum) (operand : Operand2)
  /-- UDIVcc (R270). -/
  | udivcc (rd rs1 : RegNum) (operand : Operand2)
  /-- SDIVcc (R271). -/
  | sdivcc (rd rs1 : RegNum) (operand : Operand2)
  /-- SAVE (R281). -/
  | save (rd rs1 : RegNum) (operand : Operand2)
  /-- RESTORE (R282). -/
  | restore (rd rs1 : RegNum) (operand : Operand2)
  /-- JMPL (R351). -/
  | jmpl (rd rs1 : RegNum) (operand : Operand2)
  /-- RETT (R352). -/
  | rett (rs1 : RegNum) (operand : Operand2)
  /-- TA (R356). -/
  | ta (rs1 : RegNum) (operand : TrapOperand)
  /-- TN (R357). -/
  | tn (rs1 : RegNum) (operand : TrapOperand)
  /-- TNE (R358). -/
  | tne (rs1 : RegNum) (operand : TrapOperand)
  /-- TE (R359). -/
  | te (rs1 : RegNum) (operand : TrapOperand)
  /-- TG (R360). -/
  | tg (rs1 : RegNum) (operand : TrapOperand)
  /-- TLE (R361). -/
  | tle (rs1 : RegNum) (operand : TrapOperand)
  /-- TGE (R362). -/
  | tge (rs1 : RegNum) (operand : TrapOperand)
  /-- TL (R363). -/
  | tl (rs1 : RegNum) (operand : TrapOperand)
  /-- TGU (R364). -/
  | tgu (rs1 : RegNum) (operand : TrapOperand)
  /-- TLEU (R365). -/
  | tleu (rs1 : RegNum) (operand : TrapOperand)
  /-- TCC (R366). -/
  | tcc (rs1 : RegNum) (operand : TrapOperand)
  /-- TCS (R367). -/
  | tcs (rs1 : RegNum) (operand : TrapOperand)
  /-- TPOS (R368). -/
  | tpos (rs1 : RegNum) (operand : TrapOperand)
  /-- TNEG (R369). -/
  | tneg (rs1 : RegNum) (operand : TrapOperand)
  /-- TVC (R370). -/
  | tvc (rs1 : RegNum) (operand : TrapOperand)
  /-- TVS (R371). -/
  | tvs (rs1 : RegNum) (operand : TrapOperand)
  /-- STBAR (R396). -/
  | stbar
  /-- RDY (R381). -/
  | rdy (rd : RegNum)
  /-- RDASR (R382). -/
  | rdasr (rd : RegNum) (source : AsrSource)
  /-- RDPSR (R383). -/
  | rdpsr (rd : RegNum)
  /-- RDWIM (R384). -/
  | rdwim (rd : RegNum)
  /-- RDTBR (R385). -/
  | rdtbr (rd : RegNum)
  /-- WRY (R387). -/
  | wry (rs1 : RegNum) (operand : Operand2)
  /-- WRASR (R391). -/
  | wrasr (rd rs1 : RegNum) (operand : AsrOperand)
  /-- WRPSR (R388). -/
  | wrpsr (rs1 : RegNum) (operand : Operand2)
  /-- WRWIM (R389). -/
  | wrwim (rs1 : RegNum) (operand : Operand2)
  /-- WRTBR (R390). -/
  | wrtbr (rs1 : RegNum) (operand : Operand2)
  /-- FLUSH (R398). -/
  | flush (rs1 : RegNum) (operand : Operand2)
  /-- FiTOs (R415). -/
  | fitos (rd rs2 : RegNum)
  /-- FiTOd (R416). -/
  | fitod (rd rs2 : RegNum)
  /-- FiTOq (R417). -/
  | fitoq (rd rs2 : RegNum)
  /-- FsTOi (R418). -/
  | fstoi (rd rs2 : RegNum)
  /-- FdTOi (R419). -/
  | fdtoi (rd rs2 : RegNum)
  /-- FqTOi (R420). -/
  | fqtoi (rd rs2 : RegNum)
  /-- FsTOd (R421). -/
  | fstod (rd rs2 : RegNum)
  /-- FsTOq (R422). -/
  | fstoq (rd rs2 : RegNum)
  /-- FdTOs (R423). -/
  | fdtos (rd rs2 : RegNum)
  /-- FdTOq (R424). -/
  | fdtoq (rd rs2 : RegNum)
  /-- FqTOs (R425). -/
  | fqtos (rd rs2 : RegNum)
  /-- FqTOd (R426). -/
  | fqtod (rd rs2 : RegNum)
  /-- FMOVs (R427). -/
  | fmovs (rd rs2 : RegNum)
  /-- FNEGs (R428). -/
  | fnegs (rd rs2 : RegNum)
  /-- FABSs (R429). -/
  | fabss (rd rs2 : RegNum)
  /-- FSQRTs (R430). -/
  | fsqrts (rd rs2 : RegNum)
  /-- FSQRTd (R431). -/
  | fsqrtd (rd rs2 : RegNum)
  /-- FSQRTq (R432). -/
  | fsqrtq (rd rs2 : RegNum)
  /-- FADDs (R433). -/
  | fadds (rd rs1 rs2 : RegNum)
  /-- FADDd (R434). -/
  | faddd (rd rs1 rs2 : RegNum)
  /-- FADDq (R435). -/
  | faddq (rd rs1 rs2 : RegNum)
  /-- FSUBs (R436). -/
  | fsubs (rd rs1 rs2 : RegNum)
  /-- FSUBd (R437). -/
  | fsubd (rd rs1 rs2 : RegNum)
  /-- FSUBq (R438). -/
  | fsubq (rd rs1 rs2 : RegNum)
  /-- FMULs (R439). -/
  | fmuls (rd rs1 rs2 : RegNum)
  /-- FMULd (R440). -/
  | fmuld (rd rs1 rs2 : RegNum)
  /-- FMULq (R441). -/
  | fmulq (rd rs1 rs2 : RegNum)
  /-- FsMULd (R442). -/
  | fsmuld (rd rs1 rs2 : RegNum)
  /-- FdMULq (R443). -/
  | fdmulq (rd rs1 rs2 : RegNum)
  /-- FDIVs (R444). -/
  | fdivs (rd rs1 rs2 : RegNum)
  /-- FDIVd (R445). -/
  | fdivd (rd rs1 rs2 : RegNum)
  /-- FDIVq (R446). -/
  | fdivq (rd rs1 rs2 : RegNum)
  /-- FCMPs (R448). -/
  | fcmps (rs1 rs2 : RegNum)
  /-- FCMPd (R449). -/
  | fcmpd (rs1 rs2 : RegNum)
  /-- FCMPq (R450). -/
  | fcmpq (rs1 rs2 : RegNum)
  /-- FCMPEs (R451). -/
  | fcmpes (rs1 rs2 : RegNum)
  /-- FCMPEd (R452). -/
  | fcmped (rs1 rs2 : RegNum)
  /-- FCMPEq (R453). -/
  | fcmpeq (rs1 rs2 : RegNum)
  /-- CPop1 (R461). -/
  | cpop1 (rd rs1 : RegNum) (opc : BitVec 9) (rs2 : RegNum)
  /-- CPop2 (R462). -/
  | cpop2 (rd rs1 : RegNum) (opc : BitVec 9) (rs2 : RegNum)
  deriving DecidableEq, Repr

/-- The mnemonic of the opcode table (30 R124). -/
def Instr.mnemonic : Instr → String
  | .nop => "NOP"
  | .unimp _ _ => "UNIMP"
  | .sethi _ _ => "SETHI"
  | .ba _ _ => "BA"
  | .bn _ _ => "BN"
  | .bne _ _ => "BNE"
  | .be _ _ => "BE"
  | .bg _ _ => "BG"
  | .ble _ _ => "BLE"
  | .bge _ _ => "BGE"
  | .bl _ _ => "BL"
  | .bgu _ _ => "BGU"
  | .bleu _ _ => "BLEU"
  | .bcc _ _ => "BCC"
  | .bcs _ _ => "BCS"
  | .bpos _ _ => "BPOS"
  | .bneg _ _ => "BNEG"
  | .bvc _ _ => "BVC"
  | .bvs _ _ => "BVS"
  | .fba _ _ => "FBA"
  | .fbn _ _ => "FBN"
  | .fbu _ _ => "FBU"
  | .fbg _ _ => "FBG"
  | .fbug _ _ => "FBUG"
  | .fbl _ _ => "FBL"
  | .fbul _ _ => "FBUL"
  | .fblg _ _ => "FBLG"
  | .fbne _ _ => "FBNE"
  | .fbe _ _ => "FBE"
  | .fbue _ _ => "FBUE"
  | .fbge _ _ => "FBGE"
  | .fbuge _ _ => "FBUGE"
  | .fble _ _ => "FBLE"
  | .fbule _ _ => "FBULE"
  | .fbo _ _ => "FBO"
  | .cba _ _ => "CBA"
  | .cbn _ _ => "CBN"
  | .cb3 _ _ => "CB3"
  | .cb2 _ _ => "CB2"
  | .cb23 _ _ => "CB23"
  | .cb1 _ _ => "CB1"
  | .cb13 _ _ => "CB13"
  | .cb12 _ _ => "CB12"
  | .cb123 _ _ => "CB123"
  | .cb0 _ _ => "CB0"
  | .cb03 _ _ => "CB03"
  | .cb02 _ _ => "CB02"
  | .cb023 _ _ => "CB023"
  | .cb01 _ _ => "CB01"
  | .cb013 _ _ => "CB013"
  | .cb012 _ _ => "CB012"
  | .call _ => "CALL"
  | .ldsb _ _ _ => "LDSB"
  | .ldsh _ _ _ => "LDSH"
  | .ldub _ _ _ => "LDUB"
  | .lduh _ _ _ => "LDUH"
  | .ld _ _ _ => "LD"
  | .ldd _ _ _ => "LDD"
  | .ldsba _ _ _ => "LDSBA"
  | .ldsha _ _ _ => "LDSHA"
  | .lduba _ _ _ => "LDUBA"
  | .lduha _ _ _ => "LDUHA"
  | .lda _ _ _ => "LDA"
  | .ldda _ _ _ => "LDDA"
  | .ldf _ _ _ => "LDF"
  | .lddf _ _ _ => "LDDF"
  | .ldfsr _ _ _ => "LDFSR"
  | .ldc _ _ _ => "LDC"
  | .lddc _ _ _ => "LDDC"
  | .ldcsr _ _ _ => "LDCSR"
  | .stb _ _ _ => "STB"
  | .sth _ _ _ => "STH"
  | .st _ _ _ => "ST"
  | .std _ _ _ => "STD"
  | .stba _ _ _ => "STBA"
  | .stha _ _ _ => "STHA"
  | .sta _ _ _ => "STA"
  | .stda _ _ _ => "STDA"
  | .stf _ _ _ => "STF"
  | .stdf _ _ _ => "STDF"
  | .stfsr _ _ _ => "STFSR"
  | .stdfq _ _ _ => "STDFQ"
  | .stc _ _ _ => "STC"
  | .stdc _ _ _ => "STDC"
  | .stcsr _ _ _ => "STCSR"
  | .stdcq _ _ _ => "STDCQ"
  | .ldstub _ _ _ => "LDSTUB"
  | .ldstuba _ _ _ => "LDSTUBA"
  | .swap _ _ _ => "SWAP"
  | .swapa _ _ _ => "SWAPA"
  | .and _ _ _ => "AND"
  | .andcc _ _ _ => "ANDcc"
  | .andn _ _ _ => "ANDN"
  | .andncc _ _ _ => "ANDNcc"
  | .or _ _ _ => "OR"
  | .orcc _ _ _ => "ORcc"
  | .orn _ _ _ => "ORN"
  | .orncc _ _ _ => "ORNcc"
  | .xor _ _ _ => "XOR"
  | .xorcc _ _ _ => "XORcc"
  | .xnor _ _ _ => "XNOR"
  | .xnorcc _ _ _ => "XNORcc"
  | .sll _ _ _ => "SLL"
  | .srl _ _ _ => "SRL"
  | .sra _ _ _ => "SRA"
  | .add _ _ _ => "ADD"
  | .addcc _ _ _ => "ADDcc"
  | .addx _ _ _ => "ADDX"
  | .addxcc _ _ _ => "ADDXcc"
  | .taddcc _ _ _ => "TADDcc"
  | .taddcctv _ _ _ => "TADDccTV"
  | .sub _ _ _ => "SUB"
  | .subcc _ _ _ => "SUBcc"
  | .subx _ _ _ => "SUBX"
  | .subxcc _ _ _ => "SUBXcc"
  | .tsubcc _ _ _ => "TSUBcc"
  | .tsubcctv _ _ _ => "TSUBccTV"
  | .mulscc _ _ _ => "MULScc"
  | .umul _ _ _ => "UMUL"
  | .smul _ _ _ => "SMUL"
  | .umulcc _ _ _ => "UMULcc"
  | .smulcc _ _ _ => "SMULcc"
  | .udiv _ _ _ => "UDIV"
  | .sdiv _ _ _ => "SDIV"
  | .udivcc _ _ _ => "UDIVcc"
  | .sdivcc _ _ _ => "SDIVcc"
  | .save _ _ _ => "SAVE"
  | .restore _ _ _ => "RESTORE"
  | .jmpl _ _ _ => "JMPL"
  | .rett _ _ => "RETT"
  | .ta _ _ => "TA"
  | .tn _ _ => "TN"
  | .tne _ _ => "TNE"
  | .te _ _ => "TE"
  | .tg _ _ => "TG"
  | .tle _ _ => "TLE"
  | .tge _ _ => "TGE"
  | .tl _ _ => "TL"
  | .tgu _ _ => "TGU"
  | .tleu _ _ => "TLEU"
  | .tcc _ _ => "TCC"
  | .tcs _ _ => "TCS"
  | .tpos _ _ => "TPOS"
  | .tneg _ _ => "TNEG"
  | .tvc _ _ => "TVC"
  | .tvs _ _ => "TVS"
  | .stbar => "STBAR"
  | .rdy _ => "RDY"
  | .rdasr _ _ => "RDASR"
  | .rdpsr _ => "RDPSR"
  | .rdwim _ => "RDWIM"
  | .rdtbr _ => "RDTBR"
  | .wry _ _ => "WRY"
  | .wrasr _ _ _ => "WRASR"
  | .wrpsr _ _ => "WRPSR"
  | .wrwim _ _ => "WRWIM"
  | .wrtbr _ _ => "WRTBR"
  | .flush _ _ => "FLUSH"
  | .fitos _ _ => "FiTOs"
  | .fitod _ _ => "FiTOd"
  | .fitoq _ _ => "FiTOq"
  | .fstoi _ _ => "FsTOi"
  | .fdtoi _ _ => "FdTOi"
  | .fqtoi _ _ => "FqTOi"
  | .fstod _ _ => "FsTOd"
  | .fstoq _ _ => "FsTOq"
  | .fdtos _ _ => "FdTOs"
  | .fdtoq _ _ => "FdTOq"
  | .fqtos _ _ => "FqTOs"
  | .fqtod _ _ => "FqTOd"
  | .fmovs _ _ => "FMOVs"
  | .fnegs _ _ => "FNEGs"
  | .fabss _ _ => "FABSs"
  | .fsqrts _ _ => "FSQRTs"
  | .fsqrtd _ _ => "FSQRTd"
  | .fsqrtq _ _ => "FSQRTq"
  | .fadds _ _ _ => "FADDs"
  | .faddd _ _ _ => "FADDd"
  | .faddq _ _ _ => "FADDq"
  | .fsubs _ _ _ => "FSUBs"
  | .fsubd _ _ _ => "FSUBd"
  | .fsubq _ _ _ => "FSUBq"
  | .fmuls _ _ _ => "FMULs"
  | .fmuld _ _ _ => "FMULd"
  | .fmulq _ _ _ => "FMULq"
  | .fsmuld _ _ _ => "FsMULd"
  | .fdmulq _ _ _ => "FdMULq"
  | .fdivs _ _ _ => "FDIVs"
  | .fdivd _ _ _ => "FDIVd"
  | .fdivq _ _ _ => "FDIVq"
  | .fcmps _ _ => "FCMPs"
  | .fcmpd _ _ => "FCMPd"
  | .fcmpq _ _ => "FCMPq"
  | .fcmpes _ _ => "FCMPEs"
  | .fcmped _ _ => "FCMPEd"
  | .fcmpeq _ _ => "FCMPEq"
  | .cpop1 _ _ _ _ => "CPop1"
  | .cpop2 _ _ _ _ => "CPop2"

end Sys2Proof
end

