-- ==== Sys2Proof/Decode.lean ====
section
/-! DEFINITION. The decoder, total on any word (30 R100 to R117), and after it the encoder, written from the same tables. -/

namespace Sys2Proof

/-- What a word decodes to. -/
inductive Decoded where
  /-- An instruction of the opcode table. -/
  | instr (i : Instr)
  /-- An encoding no row assigns: it raises illegal_instruction (30 R117). -/
  | unassigned
  /-- An opf no row assigns, in the FPop1 or FPop2 space (30 R117, 49 R454). -/
  | unassignedFpop
  deriving DecidableEq, Repr

/-- Bits 13:0 of format 3 as a second operand (R105): bit 13 is i. -/
def operand2Of (low : BitVec 14) : Operand2 :=
  if low.getLsbD 13 then .imm (low.extractLsb' 0 13) else .reg (low.extractLsb' 0 5)

/-- Bits 13:0 of an alternate-space instruction (R105): asi is bits 12:5. -/
def altOperandOf (low : BitVec 14) : AltOperand :=
  if low.getLsbD 13 then .imm (low.extractLsb' 0 13) else .reg (low.extractLsb' 5 8) (low.extractLsb' 0 5)

/-- Bits 13:0 of WRASR (R105, 48 R391). -/
def asrOperandOf (low : BitVec 14) : AsrOperand :=
  if low.getLsbD 13 then .imm (low.extractLsb' 0 13) else .reg (low.extractLsb' 5 8) (low.extractLsb' 0 5)

/-- Bits 13:0 of a shift (R106). -/
def shiftCountOf (low : BitVec 14) : ShiftCount :=
  if low.getLsbD 13 then .imm (low.extractLsb' 0 5) else .reg (low.extractLsb' 0 5)

/-- Bits 13:0 of a Ticc (R108). -/
def trapOperandOf (low : BitVec 14) : TrapOperand :=
  if low.getLsbD 13 then .imm (low.extractLsb' 0 7) else .reg (low.extractLsb' 0 5)

/-- Bicc by cond (R115). -/
def decodeBicc (cond : BitVec 4) (a : Bool) (disp22 : BitVec 22) : Instr :=
  match cond with
  | 0x0#4 => .bn a disp22
  | 0x1#4 => .be a disp22
  | 0x2#4 => .ble a disp22
  | 0x3#4 => .bl a disp22
  | 0x4#4 => .bleu a disp22
  | 0x5#4 => .bcs a disp22
  | 0x6#4 => .bneg a disp22
  | 0x7#4 => .bvs a disp22
  | 0x8#4 => .ba a disp22
  | 0x9#4 => .bne a disp22
  | 0xA#4 => .bg a disp22
  | 0xB#4 => .bge a disp22
  | 0xC#4 => .bgu a disp22
  | 0xD#4 => .bcc a disp22
  | 0xE#4 => .bpos a disp22
  | _ => .bvc a disp22

/-- FBfcc by cond (R115). -/
def decodeFbfcc (cond : BitVec 4) (a : Bool) (disp22 : BitVec 22) : Instr :=
  match cond with
  | 0x0#4 => .fbn a disp22
  | 0x1#4 => .fbne a disp22
  | 0x2#4 => .fblg a disp22
  | 0x3#4 => .fbul a disp22
  | 0x4#4 => .fbl a disp22
  | 0x5#4 => .fbug a disp22
  | 0x6#4 => .fbg a disp22
  | 0x7#4 => .fbu a disp22
  | 0x8#4 => .fba a disp22
  | 0x9#4 => .fbe a disp22
  | 0xA#4 => .fbue a disp22
  | 0xB#4 => .fbge a disp22
  | 0xC#4 => .fbuge a disp22
  | 0xD#4 => .fble a disp22
  | 0xE#4 => .fbule a disp22
  | _ => .fbo a disp22

/-- CBccc by cond (R115). -/
def decodeCbccc (cond : BitVec 4) (a : Bool) (disp22 : BitVec 22) : Instr :=
  match cond with
  | 0x0#4 => .cbn a disp22
  | 0x1#4 => .cb123 a disp22
  | 0x2#4 => .cb12 a disp22
  | 0x3#4 => .cb13 a disp22
  | 0x4#4 => .cb1 a disp22
  | 0x5#4 => .cb23 a disp22
  | 0x6#4 => .cb2 a disp22
  | 0x7#4 => .cb3 a disp22
  | 0x8#4 => .cba a disp22
  | 0x9#4 => .cb0 a disp22
  | 0xA#4 => .cb03 a disp22
  | 0xB#4 => .cb02 a disp22
  | 0xC#4 => .cb023 a disp22
  | 0xD#4 => .cb01 a disp22
  | 0xE#4 => .cb013 a disp22
  | _ => .cb012 a disp22

/-- Ticc by cond (R115). -/
def decodeTicc (cond : BitVec 4) (rs1 : RegNum) (operand : TrapOperand) : Instr :=
  match cond with
  | 0x0#4 => .tn rs1 operand
  | 0x1#4 => .te rs1 operand
  | 0x2#4 => .tle rs1 operand
  | 0x3#4 => .tl rs1 operand
  | 0x4#4 => .tleu rs1 operand
  | 0x5#4 => .tcs rs1 operand
  | 0x6#4 => .tneg rs1 operand
  | 0x7#4 => .tvs rs1 operand
  | 0x8#4 => .ta rs1 operand
  | 0x9#4 => .tne rs1 operand
  | 0xA#4 => .tg rs1 operand
  | 0xB#4 => .tge rs1 operand
  | 0xC#4 => .tgu rs1 operand
  | 0xD#4 => .tcc rs1 operand
  | 0xE#4 => .tpos rs1 operand
  | _ => .tvc rs1 operand

/-- op = 0 by op2 (R103, R104, R111); NOP before SETHI (R116). -/
def decodeFormat2 (high : BitVec 5) (op2 : BitVec 3) (imm22 : BitVec 22) : Decoded :=
  match op2 with
  | 0x0#3 => .instr (.unimp high imm22)
  | 0x2#3 => .instr (decodeBicc (high.extractLsb' 0 4) (high.getLsbD 4) imm22)
  | 0x4#3 => if high == 0 && imm22 == 0 then .instr .nop else .instr (.sethi high imm22)
  | 0x6#3 => .instr (decodeFbfcc (high.extractLsb' 0 4) (high.getLsbD 4) imm22)
  | 0x7#3 => .instr (decodeCbccc (high.extractLsb' 0 4) (high.getLsbD 4) imm22)
  | _ => .unassigned

/-- op3 = 0x28 (R112, R116, R380): RDY, STBAR before RDASR; STBAR needs bit 13 to be 0 (log 35). -/
def decodeReadState (rd rs1 : RegNum) (low : BitVec 14) : Instr :=
  if rs1 == 0 then .rdy rd
  else if rs1 == 15 && rd == 0 && !low.getLsbD 13 then .stbar
  else .rdasr rd { rs1 := rs1, low := low }

/-- op3 = 0x30 (R112, R386): WRY when rd is 0. -/
def decodeWriteState (rd rs1 : RegNum) (low : BitVec 14) : Instr :=
  if rd == 0 then .wry rs1 (operand2Of low) else .wrasr rd rs1 (asrOperandOf low)

/-- op3 = 0x34, by opf (R114). -/
def decodeFpop1 (rd rs1 : RegNum) (opf : BitVec 9) (rs2 : RegNum) : Decoded :=
  match opf with
  | 0x001#9 => .instr (.fmovs rd rs2)
  | 0x005#9 => .instr (.fnegs rd rs2)
  | 0x009#9 => .instr (.fabss rd rs2)
  | 0x029#9 => .instr (.fsqrts rd rs2)
  | 0x02A#9 => .instr (.fsqrtd rd rs2)
  | 0x02B#9 => .instr (.fsqrtq rd rs2)
  | 0x041#9 => .instr (.fadds rd rs1 rs2)
  | 0x042#9 => .instr (.faddd rd rs1 rs2)
  | 0x043#9 => .instr (.faddq rd rs1 rs2)
  | 0x045#9 => .instr (.fsubs rd rs1 rs2)
  | 0x046#9 => .instr (.fsubd rd rs1 rs2)
  | 0x047#9 => .instr (.fsubq rd rs1 rs2)
  | 0x049#9 => .instr (.fmuls rd rs1 rs2)
  | 0x04A#9 => .instr (.fmuld rd rs1 rs2)
  | 0x04B#9 => .instr (.fmulq rd rs1 rs2)
  | 0x04D#9 => .instr (.fdivs rd rs1 rs2)
  | 0x04E#9 => .instr (.fdivd rd rs1 rs2)
  | 0x04F#9 => .instr (.fdivq rd rs1 rs2)
  | 0x069#9 => .instr (.fsmuld rd rs1 rs2)
  | 0x06E#9 => .instr (.fdmulq rd rs1 rs2)
  | 0x0C4#9 => .instr (.fitos rd rs2)
  | 0x0C6#9 => .instr (.fdtos rd rs2)
  | 0x0C7#9 => .instr (.fqtos rd rs2)
  | 0x0C8#9 => .instr (.fitod rd rs2)
  | 0x0C9#9 => .instr (.fstod rd rs2)
  | 0x0CB#9 => .instr (.fqtod rd rs2)
  | 0x0CC#9 => .instr (.fitoq rd rs2)
  | 0x0CD#9 => .instr (.fstoq rd rs2)
  | 0x0CE#9 => .instr (.fdtoq rd rs2)
  | 0x0D1#9 => .instr (.fstoi rd rs2)
  | 0x0D2#9 => .instr (.fdtoi rd rs2)
  | 0x0D3#9 => .instr (.fqtoi rd rs2)
  | _ => .unassignedFpop

/-- op3 = 0x35, by opf (R114). -/
def decodeFpop2 (rs1 : RegNum) (opf : BitVec 9) (rs2 : RegNum) : Decoded :=
  match opf with
  | 0x051#9 => .instr (.fcmps rs1 rs2)
  | 0x052#9 => .instr (.fcmpd rs1 rs2)
  | 0x053#9 => .instr (.fcmpq rs1 rs2)
  | 0x055#9 => .instr (.fcmpes rs1 rs2)
  | 0x056#9 => .instr (.fcmped rs1 rs2)
  | 0x057#9 => .instr (.fcmpeq rs1 rs2)
  | _ => .unassignedFpop

/-- op = 2 by op3 (R112). -/
def decodeOperate (rd : RegNum) (op3 : BitVec 6) (rs1 : RegNum) (low : BitVec 14) : Decoded :=
  match op3 with
  | 0x00#6 => .instr (.add rd rs1 (operand2Of low))
  | 0x01#6 => .instr (.and rd rs1 (operand2Of low))
  | 0x02#6 => .instr (.or rd rs1 (operand2Of low))
  | 0x03#6 => .instr (.xor rd rs1 (operand2Of low))
  | 0x04#6 => .instr (.sub rd rs1 (operand2Of low))
  | 0x05#6 => .instr (.andn rd rs1 (operand2Of low))
  | 0x06#6 => .instr (.orn rd rs1 (operand2Of low))
  | 0x07#6 => .instr (.xnor rd rs1 (operand2Of low))
  | 0x08#6 => .instr (.addx rd rs1 (operand2Of low))
  | 0x0A#6 => .instr (.umul rd rs1 (operand2Of low))
  | 0x0B#6 => .instr (.smul rd rs1 (operand2Of low))
  | 0x0C#6 => .instr (.subx rd rs1 (operand2Of low))
  | 0x0E#6 => .instr (.udiv rd rs1 (operand2Of low))
  | 0x0F#6 => .instr (.sdiv rd rs1 (operand2Of low))
  | 0x10#6 => .instr (.addcc rd rs1 (operand2Of low))
  | 0x11#6 => .instr (.andcc rd rs1 (operand2Of low))
  | 0x12#6 => .instr (.orcc rd rs1 (operand2Of low))
  | 0x13#6 => .instr (.xorcc rd rs1 (operand2Of low))
  | 0x14#6 => .instr (.subcc rd rs1 (operand2Of low))
  | 0x15#6 => .instr (.andncc rd rs1 (operand2Of low))
  | 0x16#6 => .instr (.orncc rd rs1 (operand2Of low))
  | 0x17#6 => .instr (.xnorcc rd rs1 (operand2Of low))
  | 0x18#6 => .instr (.addxcc rd rs1 (operand2Of low))
  | 0x1A#6 => .instr (.umulcc rd rs1 (operand2Of low))
  | 0x1B#6 => .instr (.smulcc rd rs1 (operand2Of low))
  | 0x1C#6 => .instr (.subxcc rd rs1 (operand2Of low))
  | 0x1E#6 => .instr (.udivcc rd rs1 (operand2Of low))
  | 0x1F#6 => .instr (.sdivcc rd rs1 (operand2Of low))
  | 0x20#6 => .instr (.taddcc rd rs1 (operand2Of low))
  | 0x21#6 => .instr (.tsubcc rd rs1 (operand2Of low))
  | 0x22#6 => .instr (.taddcctv rd rs1 (operand2Of low))
  | 0x23#6 => .instr (.tsubcctv rd rs1 (operand2Of low))
  | 0x24#6 => .instr (.mulscc rd rs1 (operand2Of low))
  | 0x25#6 => .instr (.sll rd rs1 (shiftCountOf low))
  | 0x26#6 => .instr (.srl rd rs1 (shiftCountOf low))
  | 0x27#6 => .instr (.sra rd rs1 (shiftCountOf low))
  | 0x28#6 => .instr (decodeReadState rd rs1 low)
  | 0x29#6 => .instr (.rdpsr rd)
  | 0x2A#6 => .instr (.rdwim rd)
  | 0x2B#6 => .instr (.rdtbr rd)
  | 0x30#6 => .instr (decodeWriteState rd rs1 low)
  | 0x31#6 => .instr (.wrpsr rs1 (operand2Of low))
  | 0x32#6 => .instr (.wrwim rs1 (operand2Of low))
  | 0x33#6 => .instr (.wrtbr rs1 (operand2Of low))
  | 0x34#6 => decodeFpop1 rd rs1 (low.extractLsb' 5 9) (low.extractLsb' 0 5)
  | 0x35#6 => decodeFpop2 rs1 (low.extractLsb' 5 9) (low.extractLsb' 0 5)
  | 0x36#6 => .instr (.cpop1 rd rs1 (low.extractLsb' 5 9) (low.extractLsb' 0 5))
  | 0x37#6 => .instr (.cpop2 rd rs1 (low.extractLsb' 5 9) (low.extractLsb' 0 5))
  | 0x38#6 => .instr (.jmpl rd rs1 (operand2Of low))
  | 0x39#6 => .instr (.rett rs1 (operand2Of low))
  | 0x3A#6 => .instr (decodeTicc (rd.extractLsb' 0 4) rs1 (trapOperandOf low))
  | 0x3B#6 => .instr (.flush rs1 (operand2Of low))
  | 0x3C#6 => .instr (.save rd rs1 (operand2Of low))
  | 0x3D#6 => .instr (.restore rd rs1 (operand2Of low))
  | _ => .unassigned

/-- op = 3 by op3 (R113). -/
def decodeMemory (rd : RegNum) (op3 : BitVec 6) (rs1 : RegNum) (low : BitVec 14) : Decoded :=
  match op3 with
  | 0x00#6 => .instr (.ld rd rs1 (operand2Of low))
  | 0x01#6 => .instr (.ldub rd rs1 (operand2Of low))
  | 0x02#6 => .instr (.lduh rd rs1 (operand2Of low))
  | 0x03#6 => .instr (.ldd rd rs1 (operand2Of low))
  | 0x04#6 => .instr (.st rd rs1 (operand2Of low))
  | 0x05#6 => .instr (.stb rd rs1 (operand2Of low))
  | 0x06#6 => .instr (.sth rd rs1 (operand2Of low))
  | 0x07#6 => .instr (.std rd rs1 (operand2Of low))
  | 0x09#6 => .instr (.ldsb rd rs1 (operand2Of low))
  | 0x0A#6 => .instr (.ldsh rd rs1 (operand2Of low))
  | 0x0D#6 => .instr (.ldstub rd rs1 (operand2Of low))
  | 0x0F#6 => .instr (.swap rd rs1 (operand2Of low))
  | 0x10#6 => .instr (.lda rd rs1 (altOperandOf low))
  | 0x11#6 => .instr (.lduba rd rs1 (altOperandOf low))
  | 0x12#6 => .instr (.lduha rd rs1 (altOperandOf low))
  | 0x13#6 => .instr (.ldda rd rs1 (altOperandOf low))
  | 0x14#6 => .instr (.sta rd rs1 (altOperandOf low))
  | 0x15#6 => .instr (.stba rd rs1 (altOperandOf low))
  | 0x16#6 => .instr (.stha rd rs1 (altOperandOf low))
  | 0x17#6 => .instr (.stda rd rs1 (altOperandOf low))
  | 0x19#6 => .instr (.ldsba rd rs1 (altOperandOf low))
  | 0x1A#6 => .instr (.ldsha rd rs1 (altOperandOf low))
  | 0x1D#6 => .instr (.ldstuba rd rs1 (altOperandOf low))
  | 0x1F#6 => .instr (.swapa rd rs1 (altOperandOf low))
  | 0x20#6 => .instr (.ldf rd rs1 (operand2Of low))
  | 0x21#6 => .instr (.ldfsr rd rs1 (operand2Of low))
  | 0x23#6 => .instr (.lddf rd rs1 (operand2Of low))
  | 0x24#6 => .instr (.stf rd rs1 (operand2Of low))
  | 0x25#6 => .instr (.stfsr rd rs1 (operand2Of low))
  | 0x26#6 => .instr (.stdfq rd rs1 (operand2Of low))
  | 0x27#6 => .instr (.stdf rd rs1 (operand2Of low))
  | 0x30#6 => .instr (.ldc rd rs1 (operand2Of low))
  | 0x31#6 => .instr (.ldcsr rd rs1 (operand2Of low))
  | 0x33#6 => .instr (.lddc rd rs1 (operand2Of low))
  | 0x34#6 => .instr (.stc rd rs1 (operand2Of low))
  | 0x35#6 => .instr (.stcsr rd rs1 (operand2Of low))
  | 0x36#6 => .instr (.stdcq rd rs1 (operand2Of low))
  | 0x37#6 => .instr (.stdc rd rs1 (operand2Of low))
  | _ => .unassigned

/-- The decoder: by op (R100, R111). -/
def decode (w : Word) : Decoded :=
  match w.extractLsb' 30 2 with
  | 0x0#2 => decodeFormat2 (w.extractLsb' 25 5) (w.extractLsb' 22 3) (w.extractLsb' 0 22)
  | 0x1#2 => .instr (.call (w.extractLsb' 0 30))
  | 0x2#2 => decodeOperate (w.extractLsb' 25 5) (w.extractLsb' 19 6) (w.extractLsb' 14 5) (w.extractLsb' 0 14)
  | _ => decodeMemory (w.extractLsb' 25 5) (w.extractLsb' 19 6) (w.extractLsb' 14 5) (w.extractLsb' 0 14)

/-- The word whose bytes, in big-endian order, stand at the lowest addresses of an instruction's bytes (20 R72). -/
def wordOfBytes : List Byte → Option Word
  | a :: b :: c :: d :: _ => some (a ++ b ++ c ++ d)
  | _ => none

/-- The bytes of a word in big-endian order (20 R72). -/
def bytesOfWord (w : Word) : List Byte :=
  [w.extractLsb' 24 8, w.extractLsb' 16 8, w.extractLsb' 8 8, w.extractLsb' 0 8]

/-- The instruction the decoder reads from the table's word `w` of `nbits` bits, every bit above `nbits` being 0: the
word is laid out in memory order and given to the decoder. -/
def decodeTableWord (nbits w : Nat) : Option Instr :=
  match wordOfBytes (bytesOfWord (BitVec.ofNat 32 (w % 2 ^ nbits))) with
  | none => none
  | some v =>
    match decode v with
    | .instr i => some i
    | .unassigned => none
    | .unassignedFpop => none

/-- Bits 13:0 of a second operand (R105), unused bits zero. -/
def Operand2.bits : Operand2 → BitVec 14
  | .reg rs2 => 0#1 ++ 0#8 ++ rs2
  | .imm simm13 => 1#1 ++ simm13

/-- Bits 13:0 of an alternate-space operand (R105). -/
def AltOperand.bits : AltOperand → BitVec 14
  | .reg asi rs2 => 0#1 ++ asi ++ rs2
  | .imm low13 => 1#1 ++ low13

/-- Bits 13:0 of WRASR (R105). -/
def AsrOperand.bits : AsrOperand → BitVec 14
  | .reg bits rs2 => 0#1 ++ bits ++ rs2
  | .imm simm13 => 1#1 ++ simm13

/-- Bits 13:0 of a shift (R106). -/
def ShiftCount.bits : ShiftCount → BitVec 14
  | .reg rs2 => 0#1 ++ 0#8 ++ rs2
  | .imm shcnt => 1#1 ++ 0#8 ++ shcnt

/-- Bits 13:0 of a Ticc (R108). -/
def TrapOperand.bits : TrapOperand → BitVec 14
  | .reg rs2 => 0#1 ++ 0#8 ++ rs2
  | .imm imm7 => 1#1 ++ 0#6 ++ imm7

/-- Format 3 (R105). -/
def format3 (op : BitVec 2) (rd : RegNum) (op3 : BitVec 6) (rs1 : RegNum) (low : BitVec 14) : Word :=
  op ++ rd ++ op3 ++ rs1 ++ low

/-- Format 2 (R103). -/
def format2 (high : BitVec 5) (op2 : BitVec 3) (imm22 : BitVec 22) : Word :=
  0#2 ++ high ++ op2 ++ imm22

/-- Format 2, branch form (R104). -/
def branchWord (a : Bool) (cond : BitVec 4) (op2 : BitVec 3) (disp22 : BitVec 22) : Word :=
  format2 (BitVec.ofBool a ++ cond) op2 disp22

/-- Format 3, operate form (R107). -/
def operateWord (rd : RegNum) (op3 : BitVec 6) (rs1 : RegNum) (opf : BitVec 9) (rs2 : RegNum) : Word :=
  format3 2 rd op3 rs1 (opf ++ rs2)

/-- Format 3, Ticc form (R108). -/
def ticcWord (cond : BitVec 4) (rs1 : RegNum) (operand : TrapOperand) : Word :=
  format3 2 (0#1 ++ cond) 0x3A rs1 operand.bits

/-- The word of an instruction, unused and reserved fields zero but for those an operand keeps. -/
def encode : Instr → Word
  | .nop => format2 0 4 0
  | .unimp reserved const22 => format2 reserved 0 const22
  | .sethi rd imm22 => format2 rd 4 imm22
  | .ba a disp22 => branchWord a 0x8 2 disp22
  | .bn a disp22 => branchWord a 0x0 2 disp22
  | .bne a disp22 => branchWord a 0x9 2 disp22
  | .be a disp22 => branchWord a 0x1 2 disp22
  | .bg a disp22 => branchWord a 0xA 2 disp22
  | .ble a disp22 => branchWord a 0x2 2 disp22
  | .bge a disp22 => branchWord a 0xB 2 disp22
  | .bl a disp22 => branchWord a 0x3 2 disp22
  | .bgu a disp22 => branchWord a 0xC 2 disp22
  | .bleu a disp22 => branchWord a 0x4 2 disp22
  | .bcc a disp22 => branchWord a 0xD 2 disp22
  | .bcs a disp22 => branchWord a 0x5 2 disp22
  | .bpos a disp22 => branchWord a 0xE 2 disp22
  | .bneg a disp22 => branchWord a 0x6 2 disp22
  | .bvc a disp22 => branchWord a 0xF 2 disp22
  | .bvs a disp22 => branchWord a 0x7 2 disp22
  | .fba a disp22 => branchWord a 0x8 6 disp22
  | .fbn a disp22 => branchWord a 0x0 6 disp22
  | .fbu a disp22 => branchWord a 0x7 6 disp22
  | .fbg a disp22 => branchWord a 0x6 6 disp22
  | .fbug a disp22 => branchWord a 0x5 6 disp22
  | .fbl a disp22 => branchWord a 0x4 6 disp22
  | .fbul a disp22 => branchWord a 0x3 6 disp22
  | .fblg a disp22 => branchWord a 0x2 6 disp22
  | .fbne a disp22 => branchWord a 0x1 6 disp22
  | .fbe a disp22 => branchWord a 0x9 6 disp22
  | .fbue a disp22 => branchWord a 0xA 6 disp22
  | .fbge a disp22 => branchWord a 0xB 6 disp22
  | .fbuge a disp22 => branchWord a 0xC 6 disp22
  | .fble a disp22 => branchWord a 0xD 6 disp22
  | .fbule a disp22 => branchWord a 0xE 6 disp22
  | .fbo a disp22 => branchWord a 0xF 6 disp22
  | .cba a disp22 => branchWord a 0x8 7 disp22
  | .cbn a disp22 => branchWord a 0x0 7 disp22
  | .cb3 a disp22 => branchWord a 0x7 7 disp22
  | .cb2 a disp22 => branchWord a 0x6 7 disp22
  | .cb23 a disp22 => branchWord a 0x5 7 disp22
  | .cb1 a disp22 => branchWord a 0x4 7 disp22
  | .cb13 a disp22 => branchWord a 0x3 7 disp22
  | .cb12 a disp22 => branchWord a 0x2 7 disp22
  | .cb123 a disp22 => branchWord a 0x1 7 disp22
  | .cb0 a disp22 => branchWord a 0x9 7 disp22
  | .cb03 a disp22 => branchWord a 0xA 7 disp22
  | .cb02 a disp22 => branchWord a 0xB 7 disp22
  | .cb023 a disp22 => branchWord a 0xC 7 disp22
  | .cb01 a disp22 => branchWord a 0xD 7 disp22
  | .cb013 a disp22 => branchWord a 0xE 7 disp22
  | .cb012 a disp22 => branchWord a 0xF 7 disp22
  | .call disp30 => 1#2 ++ disp30
  | .ldsb rd rs1 operand => format3 3 rd 0x09 rs1 operand.bits
  | .ldsh rd rs1 operand => format3 3 rd 0x0A rs1 operand.bits
  | .ldub rd rs1 operand => format3 3 rd 0x01 rs1 operand.bits
  | .lduh rd rs1 operand => format3 3 rd 0x02 rs1 operand.bits
  | .ld rd rs1 operand => format3 3 rd 0x00 rs1 operand.bits
  | .ldd rd rs1 operand => format3 3 rd 0x03 rs1 operand.bits
  | .ldsba rd rs1 operand => format3 3 rd 0x19 rs1 operand.bits
  | .ldsha rd rs1 operand => format3 3 rd 0x1A rs1 operand.bits
  | .lduba rd rs1 operand => format3 3 rd 0x11 rs1 operand.bits
  | .lduha rd rs1 operand => format3 3 rd 0x12 rs1 operand.bits
  | .lda rd rs1 operand => format3 3 rd 0x10 rs1 operand.bits
  | .ldda rd rs1 operand => format3 3 rd 0x13 rs1 operand.bits
  | .ldf rd rs1 operand => format3 3 rd 0x20 rs1 operand.bits
  | .lddf rd rs1 operand => format3 3 rd 0x23 rs1 operand.bits
  | .ldfsr rd rs1 operand => format3 3 rd 0x21 rs1 operand.bits
  | .ldc rd rs1 operand => format3 3 rd 0x30 rs1 operand.bits
  | .lddc rd rs1 operand => format3 3 rd 0x33 rs1 operand.bits
  | .ldcsr rd rs1 operand => format3 3 rd 0x31 rs1 operand.bits
  | .stb rd rs1 operand => format3 3 rd 0x05 rs1 operand.bits
  | .sth rd rs1 operand => format3 3 rd 0x06 rs1 operand.bits
  | .st rd rs1 operand => format3 3 rd 0x04 rs1 operand.bits
  | .std rd rs1 operand => format3 3 rd 0x07 rs1 operand.bits
  | .stba rd rs1 operand => format3 3 rd 0x15 rs1 operand.bits
  | .stha rd rs1 operand => format3 3 rd 0x16 rs1 operand.bits
  | .sta rd rs1 operand => format3 3 rd 0x14 rs1 operand.bits
  | .stda rd rs1 operand => format3 3 rd 0x17 rs1 operand.bits
  | .stf rd rs1 operand => format3 3 rd 0x24 rs1 operand.bits
  | .stdf rd rs1 operand => format3 3 rd 0x27 rs1 operand.bits
  | .stfsr rd rs1 operand => format3 3 rd 0x25 rs1 operand.bits
  | .stdfq rd rs1 operand => format3 3 rd 0x26 rs1 operand.bits
  | .stc rd rs1 operand => format3 3 rd 0x34 rs1 operand.bits
  | .stdc rd rs1 operand => format3 3 rd 0x37 rs1 operand.bits
  | .stcsr rd rs1 operand => format3 3 rd 0x35 rs1 operand.bits
  | .stdcq rd rs1 operand => format3 3 rd 0x36 rs1 operand.bits
  | .ldstub rd rs1 operand => format3 3 rd 0x0D rs1 operand.bits
  | .ldstuba rd rs1 operand => format3 3 rd 0x1D rs1 operand.bits
  | .swap rd rs1 operand => format3 3 rd 0x0F rs1 operand.bits
  | .swapa rd rs1 operand => format3 3 rd 0x1F rs1 operand.bits
  | .and rd rs1 operand => format3 2 rd 0x01 rs1 operand.bits
  | .andcc rd rs1 operand => format3 2 rd 0x11 rs1 operand.bits
  | .andn rd rs1 operand => format3 2 rd 0x05 rs1 operand.bits
  | .andncc rd rs1 operand => format3 2 rd 0x15 rs1 operand.bits
  | .or rd rs1 operand => format3 2 rd 0x02 rs1 operand.bits
  | .orcc rd rs1 operand => format3 2 rd 0x12 rs1 operand.bits
  | .orn rd rs1 operand => format3 2 rd 0x06 rs1 operand.bits
  | .orncc rd rs1 operand => format3 2 rd 0x16 rs1 operand.bits
  | .xor rd rs1 operand => format3 2 rd 0x03 rs1 operand.bits
  | .xorcc rd rs1 operand => format3 2 rd 0x13 rs1 operand.bits
  | .xnor rd rs1 operand => format3 2 rd 0x07 rs1 operand.bits
  | .xnorcc rd rs1 operand => format3 2 rd 0x17 rs1 operand.bits
  | .sll rd rs1 count => format3 2 rd 0x25 rs1 count.bits
  | .srl rd rs1 count => format3 2 rd 0x26 rs1 count.bits
  | .sra rd rs1 count => format3 2 rd 0x27 rs1 count.bits
  | .add rd rs1 operand => format3 2 rd 0x00 rs1 operand.bits
  | .addcc rd rs1 operand => format3 2 rd 0x10 rs1 operand.bits
  | .addx rd rs1 operand => format3 2 rd 0x08 rs1 operand.bits
  | .addxcc rd rs1 operand => format3 2 rd 0x18 rs1 operand.bits
  | .taddcc rd rs1 operand => format3 2 rd 0x20 rs1 operand.bits
  | .taddcctv rd rs1 operand => format3 2 rd 0x22 rs1 operand.bits
  | .sub rd rs1 operand => format3 2 rd 0x04 rs1 operand.bits
  | .subcc rd rs1 operand => format3 2 rd 0x14 rs1 operand.bits
  | .subx rd rs1 operand => format3 2 rd 0x0C rs1 operand.bits
  | .subxcc rd rs1 operand => format3 2 rd 0x1C rs1 operand.bits
  | .tsubcc rd rs1 operand => format3 2 rd 0x21 rs1 operand.bits
  | .tsubcctv rd rs1 operand => format3 2 rd 0x23 rs1 operand.bits
  | .mulscc rd rs1 operand => format3 2 rd 0x24 rs1 operand.bits
  | .umul rd rs1 operand => format3 2 rd 0x0A rs1 operand.bits
  | .smul rd rs1 operand => format3 2 rd 0x0B rs1 operand.bits
  | .umulcc rd rs1 operand => format3 2 rd 0x1A rs1 operand.bits
  | .smulcc rd rs1 operand => format3 2 rd 0x1B rs1 operand.bits
  | .udiv rd rs1 operand => format3 2 rd 0x0E rs1 operand.bits
  | .sdiv rd rs1 operand => format3 2 rd 0x0F rs1 operand.bits
  | .udivcc rd rs1 operand => format3 2 rd 0x1E rs1 operand.bits
  | .sdivcc rd rs1 operand => format3 2 rd 0x1F rs1 operand.bits
  | .save rd rs1 operand => format3 2 rd 0x3C rs1 operand.bits
  | .restore rd rs1 operand => format3 2 rd 0x3D rs1 operand.bits
  | .jmpl rd rs1 operand => format3 2 rd 0x38 rs1 operand.bits
  | .rett rs1 operand => format3 2 0 0x39 rs1 operand.bits
  | .ta rs1 operand => ticcWord 0x8 rs1 operand
  | .tn rs1 operand => ticcWord 0x0 rs1 operand
  | .tne rs1 operand => ticcWord 0x9 rs1 operand
  | .te rs1 operand => ticcWord 0x1 rs1 operand
  | .tg rs1 operand => ticcWord 0xA rs1 operand
  | .tle rs1 operand => ticcWord 0x2 rs1 operand
  | .tge rs1 operand => ticcWord 0xB rs1 operand
  | .tl rs1 operand => ticcWord 0x3 rs1 operand
  | .tgu rs1 operand => ticcWord 0xC rs1 operand
  | .tleu rs1 operand => ticcWord 0x4 rs1 operand
  | .tcc rs1 operand => ticcWord 0xD rs1 operand
  | .tcs rs1 operand => ticcWord 0x5 rs1 operand
  | .tpos rs1 operand => ticcWord 0xE rs1 operand
  | .tneg rs1 operand => ticcWord 0x6 rs1 operand
  | .tvc rs1 operand => ticcWord 0xF rs1 operand
  | .tvs rs1 operand => ticcWord 0x7 rs1 operand
  | .stbar => format3 2 0 0x28 15 0
  | .rdy rd => format3 2 rd 0x28 0 0
  | .rdasr rd source => format3 2 rd 0x28 source.rs1 source.low
  | .rdpsr rd => format3 2 rd 0x29 0 0
  | .rdwim rd => format3 2 rd 0x2A 0 0
  | .rdtbr rd => format3 2 rd 0x2B 0 0
  | .wry rs1 operand => format3 2 0 0x30 rs1 operand.bits
  | .wrasr rd rs1 operand => format3 2 rd 0x30 rs1 operand.bits
  | .wrpsr rs1 operand => format3 2 0 0x31 rs1 operand.bits
  | .wrwim rs1 operand => format3 2 0 0x32 rs1 operand.bits
  | .wrtbr rs1 operand => format3 2 0 0x33 rs1 operand.bits
  | .flush rs1 operand => format3 2 0 0x3B rs1 operand.bits
  | .fitos rd rs2 => operateWord rd 0x34 0 0x0C4 rs2
  | .fitod rd rs2 => operateWord rd 0x34 0 0x0C8 rs2
  | .fitoq rd rs2 => operateWord rd 0x34 0 0x0CC rs2
  | .fstoi rd rs2 => operateWord rd 0x34 0 0x0D1 rs2
  | .fdtoi rd rs2 => operateWord rd 0x34 0 0x0D2 rs2
  | .fqtoi rd rs2 => operateWord rd 0x34 0 0x0D3 rs2
  | .fstod rd rs2 => operateWord rd 0x34 0 0x0C9 rs2
  | .fstoq rd rs2 => operateWord rd 0x34 0 0x0CD rs2
  | .fdtos rd rs2 => operateWord rd 0x34 0 0x0C6 rs2
  | .fdtoq rd rs2 => operateWord rd 0x34 0 0x0CE rs2
  | .fqtos rd rs2 => operateWord rd 0x34 0 0x0C7 rs2
  | .fqtod rd rs2 => operateWord rd 0x34 0 0x0CB rs2
  | .fmovs rd rs2 => operateWord rd 0x34 0 0x001 rs2
  | .fnegs rd rs2 => operateWord rd 0x34 0 0x005 rs2
  | .fabss rd rs2 => operateWord rd 0x34 0 0x009 rs2
  | .fsqrts rd rs2 => operateWord rd 0x34 0 0x029 rs2
  | .fsqrtd rd rs2 => operateWord rd 0x34 0 0x02A rs2
  | .fsqrtq rd rs2 => operateWord rd 0x34 0 0x02B rs2
  | .fadds rd rs1 rs2 => operateWord rd 0x34 rs1 0x041 rs2
  | .faddd rd rs1 rs2 => operateWord rd 0x34 rs1 0x042 rs2
  | .faddq rd rs1 rs2 => operateWord rd 0x34 rs1 0x043 rs2
  | .fsubs rd rs1 rs2 => operateWord rd 0x34 rs1 0x045 rs2
  | .fsubd rd rs1 rs2 => operateWord rd 0x34 rs1 0x046 rs2
  | .fsubq rd rs1 rs2 => operateWord rd 0x34 rs1 0x047 rs2
  | .fmuls rd rs1 rs2 => operateWord rd 0x34 rs1 0x049 rs2
  | .fmuld rd rs1 rs2 => operateWord rd 0x34 rs1 0x04A rs2
  | .fmulq rd rs1 rs2 => operateWord rd 0x34 rs1 0x04B rs2
  | .fsmuld rd rs1 rs2 => operateWord rd 0x34 rs1 0x069 rs2
  | .fdmulq rd rs1 rs2 => operateWord rd 0x34 rs1 0x06E rs2
  | .fdivs rd rs1 rs2 => operateWord rd 0x34 rs1 0x04D rs2
  | .fdivd rd rs1 rs2 => operateWord rd 0x34 rs1 0x04E rs2
  | .fdivq rd rs1 rs2 => operateWord rd 0x34 rs1 0x04F rs2
  | .fcmps rs1 rs2 => operateWord 0 0x35 rs1 0x051 rs2
  | .fcmpd rs1 rs2 => operateWord 0 0x35 rs1 0x052 rs2
  | .fcmpq rs1 rs2 => operateWord 0 0x35 rs1 0x053 rs2
  | .fcmpes rs1 rs2 => operateWord 0 0x35 rs1 0x055 rs2
  | .fcmped rs1 rs2 => operateWord 0 0x35 rs1 0x056 rs2
  | .fcmpeq rs1 rs2 => operateWord 0 0x35 rs1 0x057 rs2
  | .cpop1 rd rs1 opc rs2 => operateWord rd 0x36 rs1 opc rs2
  | .cpop2 rd rs1 opc rs2 => operateWord rd 0x37 rs1 opc rs2

/-- The bits 12:5 that a WRASR with i = 0 keeps. -/
def AsrOperand.unused : AsrOperand → BitVec 8
  | .reg bits _ => bits
  | .imm _ => 0

/-- The unused bits (R120) that an instruction keeps as operands: 13:0 of RDASR and, with i = 0, 12:5 of WRASR. -/
def Instr.keptUnused : Instr → Nat
  | .rdasr _ source => source.low.toNat
  | .wrasr _ _ operand => operand.unused.toNat
  | _ => 0

/-- Whether an unused or reserved field of the word of an instruction is nonzero (R120). -/
def unusedFieldSet (w : Word) (i : Instr) : Bool := encode i != w || i.keptUnused != 0

end Sys2Proof
end

