-- ==== Sys2Proof/Machine/State.lean ====
section
/-! DEFINITION. The state of one processor (10_state), the reasons a step can stop, and the state after reset. -/

namespace Sys2Proof.Machine

/-- The integer condition codes PSR.icc (10_state R29). -/
structure Icc where
  n : Bool
  z : Bool
  v : Bool
  c : Bool
  deriving DecidableEq, Repr

/-- The writable fields of the PSR (R30); impl and ver are in `Config`, bits 19:14 read as zero. -/
structure Psr where
  icc : Icc
  ec : Bool
  ef : Bool
  pil : BitVec 4
  s : Bool
  ps : Bool
  et : Bool
  cwp : BitVec 5
  deriving DecidableEq, Repr

/-- The trap base register (R37). -/
structure Tbr where
  tba : BitVec 20
  tt : BitVec 8
  deriving DecidableEq, Repr

/-- The floating-point state register (R41 to R44) but for ver (in `Config`) and qne (read off the queue). -/
structure Fsr where
  /-- Rounding direction. -/
  rd : BitVec 2
  /-- Trap enable mask NVM OFM UFM DZM NXM. -/
  tem : BitVec 5
  /-- Nonstandard mode. -/
  ns : Bool
  /-- Floating-point trap type. -/
  ftt : BitVec 3
  /-- Condition code. -/
  fcc : BitVec 2
  /-- Accrued exceptions. -/
  aexc : BitVec 5
  /-- Current exceptions. -/
  cexc : BitVec 5
  deriving DecidableEq, Repr

/-- The state registers whose writes are delayed (48 R392). -/
inductive StateReg where
  | psr
  | wim
  | tbr
  | y
  | asr (n : RegNum)
  deriving DecidableEq, Repr

/-- A write state register instruction whose window of three instructions is open (70 R524). -/
structure PendingWrite where
  reg : StateReg
  /-- How many instructions the window still covers. -/
  left : Nat
  /-- The bits of the fields whose reads are undefined. -/
  changed : Word
  /-- The register before the write. -/
  old : Word
  /-- A trap has been taken in the window: it has settled S and CWP (log 7). -/
  handled : Bool := false
  /-- How many traps were taken in the window whose handlers no RETT has left: in a handler read state register instructions
  find the new value (48 R392, statement 6). -/
  handlers : Nat := 0
  deriving DecidableEq, Repr

/-- A doubleword of the instruction buffer that may still hold old contents (20 R88). -/
structure StaleDword where
  /-- The key of its first byte in `State.mem`. -/
  key : Nat
  /-- The bytes of memory there before the store. -/
  old : List Host.Cell
  /-- After a FLUSH of it: how many more instructions until the copy is gone. -/
  flushLeft : Option Nat
  deriving DecidableEq, Repr

/-- Why a step stops with a fault. -/
inductive Fault where
  /-- Raised by a fetch, a load or an atomic of a byte that nothing has written: 10_state R53 says memory is unspecified
  after reset and a read of it is never zero (log 2). Safe: the hardware would go on with some value. -/
  | memoryUnwritten
  /-- Raised by every step in error_mode without a reset request: no step is enabled (10_state R27, 60 R484; log 26).
  Safe: the hardware executes no instruction there. -/
  | errorMode
  deriving DecidableEq, Repr

/-- Why a step is refused. -/
inductive Refusal where
  /-- No meaning yet: only `exec`'s arms answer with it. Safe. -/
  | notModelled (mnemonic : String)
  /-- Raised by an access to an address space without storage, whose behaviour is the implementation's (20 R71, I31;
  log 16). Safe: the model gives the access no result. -/
  | asiWithoutStorage (asi : Asi)
  /-- Raised by a word with a nonzero unused or reserved field under `cfg.unusedBits = refuse` (30 R120; log 3). Safe: the
  model gives such a word no meaning. -/
  | unusedFieldSet (word : Word)
  deriving DecidableEq, Repr

/-- The traps of 60 R471. -/
inductive Trap where
  | dataStoreError
  | instructionAccessError
  | rRegisterAccessError
  | instructionAccessException
  | privilegedInstruction
  | illegalInstruction
  | fpDisabled
  | cpDisabled
  | unimplementedFlush
  | windowOverflow
  | windowUnderflow
  | memAddressNotAligned
  | fpException
  | cpException
  | dataAccessError
  | dataAccessException
  | tagOverflow
  | divisionByZero
  | trapInstruction (n : BitVec 7)
  | interrupt (level : BitVec 4)
  deriving DecidableEq, Repr

/-- Memory: bytes by key, in one canonical form; a key is a bank and a 32-bit address (`Memory.key`). -/
abbrev Memory := List Host.Cell

/-- The architectural state of one processor (R20), the hidden state of R51, and the inputs of the platform. -/
structure State where
  /-- The implementation's parameters (00_scope R7): no step writes them. -/
  cfg : Config
  /-- PC (R26). -/
  pc : Word
  /-- nPC (R26). -/
  npc : Word
  /-- The instruction at PC is annulled (R27, R49). -/
  annul : Bool
  /-- error_mode (R50). -/
  errorMode : Bool
  /-- The global registers G[0..7] (R22). -/
  g : Vector Word 8
  /-- The windowed registers W (R22); a machine of NWINDOWS windows uses the first 16*NWINDOWS. -/
  win : Vector Word 512
  /-- PSR (R30). -/
  psr : Psr
  /-- WIM (R36). -/
  wim : Word
  /-- TBR (R37). -/
  tbr : Tbr
  /-- Y (R38). -/
  y : Word
  /-- The ancillary state registers by number (R39). -/
  asr : Vector Word 32
  /-- The f registers (R40). -/
  f : Vector Word 32
  /-- FSR (R41). -/
  fsr : Fsr
  /-- The floating-point queue, front first (R45). -/
  fq : List Dword
  /-- The ftt of a deferred floating-point trap not yet taken (R51(f); log 17). -/
  fpPending : Option (BitVec 3)
  /-- The coprocessor (R47). -/
  cp : Cp
  /-- Input: the coprocessor presents an exception (60 R479; log 19). -/
  cpExc : Bool
  /-- Memory (R48). -/
  mem : Memory
  /-- Input: the interrupt request level IRL (60 R486). -/
  irl : BitVec 4
  /-- Input: reset is requested (70 R520). -/
  resetReq : Bool
  /-- Input: a store failure is reported after the store has completed (60 R476(c); log 15). -/
  storeError : Bool
  /-- The delayed writes whose windows are open, oldest first (R51(a)). -/
  pending : List PendingWrite
  /-- The instruction executed last was an FPop2 (70 R527). -/
  afterFpop2 : Bool
  /-- The instruction executed last was a JMPL (70 R530). -/
  afterJmpl : Bool
  /-- How many instructions the LDFSR window still covers (70 R528). -/
  ldfsrLeft : Nat
  /-- The space of the following fetches is open (70 R530; log 10). -/
  fetchDoubt : Bool
  /-- The stale doublewords of the instruction buffer, oldest first (R51(d); log 27). -/
  ibuf : List StaleDword
  /-- The model's own: how many steps have drawn free values (log 5). -/
  freeCount : Nat
  deriving DecidableEq, Repr

/-- The machine right after reset: PC, nPC, S, ET and annul as R53 and 70 R520 say; every register R53 leaves unspecified
holds zero and no deferred floating-point trap is pending, of which R53 does not speak (log 1), no hazard of an instruction
before the reset is open (log 38), the inputs are off (logs 15, 19, 29), memory lists nothing (log 2), the configuration is the default (log 4). -/
def State.reset : State where
  cfg := Config.default
  pc := 0
  npc := 4
  annul := false
  errorMode := false
  g := Vector.replicate 8 0
  win := Vector.replicate 512 0
  psr := ⟨⟨false, false, false, false⟩, false, false, 0, true, false, false, 0⟩
  wim := 0
  tbr := { tba := 0, tt := 0 }
  y := 0
  asr := Vector.replicate 32 0
  f := Vector.replicate 32 0
  fsr := { rd := 0, tem := 0, ns := false, ftt := 0, fcc := 0, aexc := 0, cexc := 0 }
  fq := []
  fpPending := none
  cp := { regs := Vector.replicate 32 0, csr := 0, cq := [], cc := 0 }
  cpExc := false
  mem := []
  irl := 0
  resetReq := false
  storeError := false
  pending := []
  afterFpop2 := false
  afterJmpl := false
  ldfsrLeft := 0
  fetchDoubt := false
  ibuf := []
  freeCount := 0

end Sys2Proof.Machine
end

