-- ==== Sys2Proof/Machine/Ops.lean ====
section
/-! DEFINITION. The named operations over registers and memory, how an instruction ends, taking a trap and returning from
one, and fetching. -/

namespace Sys2Proof.Machine

/-- What executing an instruction answers. -/
abbrev Out := Host.Outcome State Fault Refusal

/-! ### Free values (log 5) -/

/-- This step's free value for an item. -/
def State.draw (s : State) (i : FreeItem) : BitVec 128 := Config.free s.freeCount i

/-- A free word. -/
def State.drawWord (s : State) (i : FreeItem) : Word := (s.draw i).setWidth 32

/-- A free bit. -/
def State.drawBit (s : State) (i : FreeItem) : Bool := (s.draw i).getLsbD 0

/-- One of `new` and `olds`, which one being free. -/
def State.pick {α : Type} (s : State) (i : FreeItem) (new : α) (olds : List α) : α :=
  (olds[(s.draw i).toNat % (olds.length + 1)]?).getD new

/-! ### State registers as words -/

/-- The PSR as RDPSR reads it (10_state R30). -/
def Psr.toWord (c : Config) (p : Psr) : Word :=
  c.psrImpl ++ c.psrVer ++ BitVec.ofBool p.icc.n ++ BitVec.ofBool p.icc.z ++ BitVec.ofBool p.icc.v ++
    BitVec.ofBool p.icc.c ++ 0#6 ++ BitVec.ofBool p.ec ++ BitVec.ofBool p.ef ++ p.pil ++ BitVec.ofBool p.s ++
    BitVec.ofBool p.ps ++ BitVec.ofBool p.et ++ p.cwp

/-- The writable fields of the PSR from a word (48 R388). -/
def Psr.ofWord (w : Word) : Psr where
  icc := { n := w.getLsbD 23, z := w.getLsbD 22, v := w.getLsbD 21, c := w.getLsbD 20 }
  ec := w.getLsbD 13
  ef := w.getLsbD 12
  pil := w.extractLsb' 8 4
  s := w.getLsbD 7
  ps := w.getLsbD 6
  et := w.getLsbD 5
  cwp := w.extractLsb' 0 5

/-- The TBR as RDTBR reads it (10_state R37). -/
def Tbr.toWord (t : Tbr) : Word := t.tba ++ t.tt ++ 0#4

/-- The FSR as STFSR stores it (10_state R41): ver is hardwired, unused and reserved bits are zero. -/
def Fsr.toWord (c : Config) (qne : Bool) (r : Fsr) : Word :=
  r.rd ++ 0#2 ++ r.tem ++ BitVec.ofBool r.ns ++ 0#2 ++ c.fsrVer ++ r.ftt ++ BitVec.ofBool qne ++ 0#1 ++ r.fcc ++
    r.aexc ++ r.cexc

/-- The FSR after LDFSR of a word (10_state R41, 40 R156): RD, TEM, NS, fcc, aexc and cexc are loaded, ftt stays. -/
def Fsr.load (r : Fsr) (w : Word) : Fsr where
  rd := w.extractLsb' 30 2
  tem := w.extractLsb' 23 5
  ns := w.getLsbD 22
  ftt := r.ftt
  fcc := w.extractLsb' 10 2
  aexc := w.extractLsb' 5 5
  cexc := w.extractLsb' 0 5

/-- FSR.qne: the queue is not empty; without a queue it reads 0 (10_state R45). -/
def State.qne (s : State) : Bool := s.cfg.fqPresent && !s.fq.isEmpty

/-! ### Delayed writes (48 R392, 70 R524; log 6) -/

/-- The bits of PSR.icc. -/
def iccMask : Word := 0x00F00000

/-- The bit of PSR.EC. -/
def ecMask : Word := 0x00002000

/-- The bit of PSR.EF. -/
def efMask : Word := 0x00001000

/-- The bits of PSR.PIL. -/
def pilMask : Word := 0x00000F00

/-- The bit of PSR.S. -/
def sMask : Word := 0x00000080

/-- The bit of PSR.PS. -/
def psMask : Word := 0x00000040

/-- The bit of PSR.ET. -/
def etMask : Word := 0x00000020

/-- The bits of PSR.CWP. -/
def cwpMask : Word := 0x0000001F

/-- The fields of the PSR. -/
def psrFields : List Word := [iccMask, ecMask, efMask, pilMask, sMask, psMask, etMask, cwpMask]

/-- The whole of every field in which two words differ. -/
def changedFields (fields : List Word) (old new : Word) : Word :=
  fields.foldl (fun m f => if (old ^^^ new) &&& f = 0 then m else m ||| f) 0

/-- The state as a read state register instruction finds it: in the handler of a trap taken in a window, until its RETT, the
window is over for such reads alone (48 R392, statement 6; log 7). -/
def State.settled (s : State) : State := { s with pending := s.pending.filter (fun p => p.handlers == 0) }

/-- The bits of a register that a read inside an open window finds undefined (R524(b)). All reads of one field in a step find
one value, a draw of its own for each field: the spec says only that the contents read are undefined (the model's choice,
log 39). -/
def State.openMask (s : State) (r : StateReg) : Word :=
  s.pending.foldl (fun m p => if p.reg = r then m ||| p.changed else m) 0

/-- Whether a write of the register has an open window (R524(a)). -/
def State.inWindow (s : State) (r : StateReg) : Bool := s.pending.any (fun p => p.reg == r)

/-- Whether a read of a PSR field finds it undefined. -/
def State.psrOpen (s : State) (field : Word) : Bool := (s.openMask .psr &&& field) != 0

/-- The open windows of a register after another instruction wrote one of its fields: reads of it are undefined too. -/
def spoil (r : StateReg) (field : Word) (ps : List PendingWrite) : List PendingWrite :=
  ps.map (fun p => if p.reg = r then { p with changed := p.changed ||| field } else p)

/-- PSR.icc as an instruction reads it. -/
def State.seenIcc (s : State) : Icc :=
  if s.psrOpen iccMask then
    { n := (s.draw .icc).getLsbD 3, z := (s.draw .icc).getLsbD 2, v := (s.draw .icc).getLsbD 1,
      c := (s.draw .icc).getLsbD 0 }
  else s.psr.icc

/-- PSR.EC as an instruction reads it. -/
def State.seenEc (s : State) : Bool := if s.psrOpen ecMask then s.drawBit .ec else s.psr.ec

/-- PSR.EF as an instruction reads it. -/
def State.seenEf (s : State) : Bool := if s.psrOpen efMask then s.drawBit .ef else s.psr.ef

/-- PSR.PIL in an open window; the interrupt test is exempt (60 R488). -/
def State.seenPil (s : State) : BitVec 4 := if s.psrOpen pilMask then (s.draw .pil).setWidth 4 else s.psr.pil

/-- PSR.S as an instruction reads it: its fetch, its privilege check and its data space find one value (the model's choice,
log 39). -/
def State.seenS (s : State) : Bool := if s.psrOpen sMask then s.drawBit .s else s.psr.s

/-- PSR.PS as an instruction reads it. -/
def State.seenPs (s : State) : Bool := if s.psrOpen psMask then s.drawBit .ps else s.psr.ps

/-- PSR.ET as an instruction or a synchronous trap reads it, one value for all reads of a step (log 39). -/
def State.seenEt (s : State) : Bool := if s.psrOpen etMask then s.drawBit .et else s.psr.et

/-- NWINDOWS of this machine. -/
def State.nWindows (s : State) : Nat := s.cfg.nWindows

/-- A number reduced to a window number (10_state R35). -/
def State.window (s : State) (n : Nat) : BitVec 5 := BitVec.ofNat 5 (n % s.nWindows)

/-- A free window number. -/
def State.drawWindow (s : State) (i : FreeItem) : BitVec 5 := s.window (s.draw i).toNat

/-- PSR.CWP as an instruction reads it. -/
def State.seenCwp (s : State) : BitVec 5 := if s.psrOpen cwpMask then s.drawWindow .cwp else s.psr.cwp

/-- The PSR, each field as read; RDPSR reads it of the `settled` state. -/
def State.seenPsr (s : State) : Psr where
  icc := s.seenIcc
  ec := s.seenEc
  ef := s.seenEf
  pil := s.seenPil
  s := s.seenS
  ps := s.seenPs
  et := s.seenEt
  cwp := s.seenCwp

/-- The mask of the implemented windows (10_state R36). -/
def State.windowMask (s : State) : Word := BitVec.ofNat 32 (2 ^ s.nWindows - 1)

/-- WIM as an instruction reads it. -/
def State.seenWim (s : State) : Word :=
  if s.openMask .wim = 0 then s.wim else s.drawWord .wim &&& s.windowMask

/-- Whether a window is marked invalid: bit `w` of WIM (46 R281, R282); free inside a WRWIM window (70 R524). -/
def State.windowMarked (s : State) (w : BitVec 5) : Bool := s.seenWim.getLsbD w.toNat

/-- TBR.TBA in an open window; RDTBR reads it of the `settled` state. -/
def State.seenTba (s : State) : BitVec 20 :=
  if s.openMask .tbr = 0 then s.tbr.tba else (s.draw .tba).setWidth 20

/-- Y as an instruction reads it. -/
def State.seenY (s : State) : Word := if s.openMask .y = 0 then s.y else s.drawWord .y

/-- An ancillary state register's contents. -/
def State.asrValue (s : State) (n : RegNum) : Word := (s.asr[n.toNat]?).getD 0

/-- An ancillary state register in an open window; RDASR reads it of the `settled` state. -/
def State.seenAsr (s : State) (n : RegNum) : Word :=
  if s.openMask (.asr n) = 0 then s.asrValue n else s.drawWord .asr

/-- A write of PSR.icc by an instruction other than WRPSR (R524(a)). -/
def State.writeIcc (i : Icc) (s : State) : State :=
  if s.inWindow .psr then
    { s with
      psr := { s.psr with icc := { n := (s.draw .iccAfter).getLsbD 3, z := (s.draw .iccAfter).getLsbD 2, v := (s.draw .iccAfter).getLsbD 1, c := (s.draw .iccAfter).getLsbD 0 } }
      pending := spoil .psr iccMask s.pending }
  else { s with psr := { s.psr with icc := i } }

/-- A write of PSR.CWP by SAVE, RESTORE or RETT (R524(a)). -/
def State.writeCwp (w : BitVec 5) (s : State) : State :=
  if s.inWindow .psr then
    { s with
      psr := { s.psr with cwp := s.drawWindow .cwpAfter }
      pending := spoil .psr cwpMask s.pending }
  else { s with psr := { s.psr with cwp := w } }

/-- A write of Y by an instruction other than WRY (R524(a)). -/
def State.writeY (v : Word) (s : State) : State :=
  if s.inWindow .y then
    { s with
      y := s.drawWord .yAfter
      pending := spoil .y (BitVec.allOnes 32) s.pending }
  else { s with y := v }

/-! ### Integer registers (10_state R21 to R24) -/

/-- The window before a window (SAVE, trap entry). -/
def State.prevWindow (s : State) (w : BitVec 5) : BitVec 5 := s.window (w.toNat + s.nWindows - 1)

/-- The window after a window (RESTORE, RETT). -/
def State.nextWindow (s : State) (w : BitVec 5) : BitVec 5 := s.window (w.toNat + 1)

/-- The cell of W that is r[n] of window w, 8 <= n (R22). -/
def State.cell (s : State) (w : BitVec 5) (n : RegNum) : Nat := (16 * w.toNat + (n.toNat - 8)) % (16 * s.nWindows)

/-- Reading r_w[n] (R22); r[0] reads 0 (R23). -/
def State.readRW (s : State) (w : BitVec 5) (n : RegNum) : Word :=
  if n = 0 then 0
  else if n.toNat < 8 then (s.g[n.toNat]?).getD 0
  else (s.win[s.cell w n]?).getD 0

/-- Writing r_w[n] (R22); a write to r[0] is discarded (R23). -/
def State.writeRW (w : BitVec 5) (n : RegNum) (v : Word) (s : State) : State :=
  if n = 0 then s
  else if n.toNat < 8 then { s with g := s.g.setIfInBounds n.toNat v }
  else { s with win := s.win.setIfInBounds (s.cell w n) v }

/-- Reading r[n] of the current window. -/
def State.readR (s : State) (n : RegNum) : Word := s.readRW s.seenCwp n

/-- Writing r[n] of the current window. -/
def State.writeR (n : RegNum) (v : Word) (s : State) : State := s.writeRW s.seenCwp n v

/-- The even register of a pair (R24). -/
def evenReg (n : RegNum) : RegNum := n &&& 0x1E

/-- The odd register of a pair (R24). -/
def oddReg (n : RegNum) : RegNum := n ||| 1

/-- Writing a register pair (R24): the more significant word into the even register. -/
def State.writeRPair (n : RegNum) (v : Dword) (s : State) : State :=
  (s.writeR (evenReg n) (v.extractLsb' 32 32)).writeR (oddReg n) (v.extractLsb' 0 32)

/-- Reading a register pair (R24). -/
def State.readRPair (s : State) (n : RegNum) : Dword := s.readR (evenReg n) ++ s.readR (oddReg n)

/-! ### Floating-point and coprocessor registers (10_state R40, R47) -/

/-- Reading f[n]. -/
def State.readF (s : State) (n : RegNum) : Word := (s.f[n.toNat]?).getD 0

/-- Writing f[n]. -/
def State.writeF (n : RegNum) (v : Word) (s : State) : State := { s with f := s.f.setIfInBounds n.toNat v }

/-- Reading fd[n and 0x1E] (R40, 49 R411). -/
def State.readFd (s : State) (n : RegNum) : Dword := s.readF (evenReg n) ++ s.readF (oddReg n)

/-- Writing fd[n and 0x1E]. -/
def State.writeFd (n : RegNum) (v : Dword) (s : State) : State :=
  (s.writeF (evenReg n) (v.extractLsb' 32 32)).writeF (oddReg n) (v.extractLsb' 0 32)

/-- Reading fq[n and 0x1C] (R40, 49 R411). -/
def State.readFq (s : State) (n : RegNum) : Quad :=
  s.readF (n &&& 0x1C) ++ s.readF ((n &&& 0x1C) ||| 1) ++ s.readF ((n &&& 0x1C) ||| 2) ++ s.readF ((n &&& 0x1C) ||| 3)

/-- Writing fq[n and 0x1C]. -/
def State.writeFq (n : RegNum) (v : Quad) (s : State) : State :=
  (((s.writeF (n &&& 0x1C) (v.extractLsb' 96 32)).writeF ((n &&& 0x1C) ||| 1) (v.extractLsb' 64 32)).writeF
    ((n &&& 0x1C) ||| 2) (v.extractLsb' 32 32)).writeF ((n &&& 0x1C) ||| 3) (v.extractLsb' 0 32)

/-- Reading coprocessor register n. -/
def State.readC (s : State) (n : RegNum) : Word := (s.cp.regs[n.toNat]?).getD 0

/-- Writing coprocessor register n. -/
def State.writeC (n : RegNum) (v : Word) (s : State) : State :=
  { s with cp := { s.cp with regs := s.cp.regs.setIfInBounds n.toNat v } }

/-- Writing the Coprocessor State Register. -/
def State.writeCsr (v : Word) (s : State) : State := { s with cp := { s.cp with csr := v } }

/-- What a load or a store does to the coprocessor beside what its rule says is moved: CP_SEMANTICS, which may change any of
its registers, its CSR, its queue and bp_CP_cc (40 R157, 41 R184, D20; log 19). -/
def State.cpMove (m : CpMove) (s : State) : State := { s with cp := Config.cpMoved m s.cp }

/-! ### Memory (20_memory) -/

/-- What a byte that nothing has written reads as: no value (10_state R53; log 2). -/
def unlistedByte : Option Byte := none

/-- The byte listed at a key. -/
def Memory.find (k : Nat) : Memory → Option Byte
  | [] => none
  | (a, b) :: m => if a = k then some b else Memory.find k m

/-- Reading one byte. -/
def Memory.read1 (m : Memory) (k : Nat) : Option Byte :=
  match m.find k with
  | some b => some b
  | none => unlistedByte

/-- Listing a byte in order of keys. -/
def Memory.insert (k : Nat) (b : Byte) : Memory → Memory
  | [] => [(k, b)]
  | (a, c) :: m => if k < a then (k, b) :: (a, c) :: m else if a = k then (k, b) :: m else (a, c) :: Memory.insert k b m

/-- Unlisting a key. -/
def Memory.erase (k : Nat) (m : Memory) : Memory := m.filter (fun c => c.1 != k)

/-- Writing one byte, keeping the canonical form. -/
def Memory.write1 (m : Memory) (k : Nat) (b : Byte) : Memory :=
  if some b = unlistedByte then m.erase k else m.insert k b

/-- The keys are strictly rising, and each is above `lo` where one is given. -/
def Memory.rising : Option Nat → Memory → Bool
  | _, [] => true
  | lo, (a, _) :: m => (match lo with | none => true | some l => decide (l < a)) && Memory.rising (some a) m

/-- The canonical form: keys strictly rising, no entry equal to what an unlisted byte reads as. -/
def Memory.wf (m : Memory) : Bool := m.rising none && m.all (fun c => some c.2 != unlistedByte)

/-- The key of an address of a bank. -/
def Memory.key (bank : Nat) (a : Word) : Nat := bank * 4294967296 + a.toNat

/-- Reading a halfword, big-endian (20 R72). -/
def Memory.read2 (m : Memory) (k : Nat) : Option Half := do
  let hi ← m.read1 k
  let lo ← m.read1 (k + 1)
  pure (hi ++ lo)

/-- Reading a word. -/
def Memory.read4 (m : Memory) (k : Nat) : Option Word := do
  let hi ← m.read2 k
  let lo ← m.read2 (k + 2)
  pure (hi ++ lo)

/-- Reading a doubleword. -/
def Memory.read8 (m : Memory) (k : Nat) : Option Dword := do
  let hi ← m.read4 k
  let lo ← m.read4 (k + 4)
  pure (hi ++ lo)

/-- Writing a halfword, big-endian (20 R72). -/
def Memory.write2 (m : Memory) (k : Nat) (v : Half) : Memory :=
  (m.write1 k (v.extractLsb' 8 8)).write1 (k + 1) (v.extractLsb' 0 8)

/-- Writing a word. -/
def Memory.write4 (m : Memory) (k : Nat) (v : Word) : Memory :=
  (m.write2 k (v.extractLsb' 16 16)).write2 (k + 2) (v.extractLsb' 0 16)

/-- Writing a doubleword. -/
def Memory.write8 (m : Memory) (k : Nat) (v : Dword) : Memory :=
  (m.write4 k (v.extractLsb' 32 32)).write4 (k + 4) (v.extractLsb' 0 32)

/-- DataASI() (00_scope R12, 20 R71). -/
def State.dataAsi (s : State) : Asi := if s.seenS then 0x0B else 0x0A

/-- The trap of an answer of the oracle. -/
def AccessTrap.trap : AccessTrap → Trap
  | .instructionAccessException => .instructionAccessException
  | .instructionAccessError => .instructionAccessError
  | .dataAccessException => .dataAccessException
  | .dataAccessError => .dataAccessError
  | .dataStoreError => .dataStoreError
  | .rRegisterAccessError => .rRegisterAccessError

/-- Which answers the oracle may give for a kind of access (20 R84). -/
def AccessTrap.legal : AccessTrap → AccessKind → Bool
  | .instructionAccessException, k => k == .fetch
  | .instructionAccessError, k => k == .fetch
  | .dataAccessException, k => k == .read || k == .write || k == .atomic
  | .dataAccessError, k => k == .read || k == .write || k == .atomic
  | .dataStoreError, k => k == .write || k == .atomic
  | .rRegisterAccessError, k => k == .register

/-- Whether a rule of the oracle answers an access. -/
def FaultRule.covers (r : FaultRule) (kind : AccessKind) (asi : Asi) (addr : Word) (n : Nat) (sup : Bool) : Bool :=
  r.kind == kind && r.asi == asi && decide (r.lo ≤ addr.toNat) && decide (addr.toNat ≤ r.hi) &&
    (r.width.getD n == n) && (r.supervisor.getD sup == sup) && AccessTrap.legal r.trap kind

/-- The oracle `MemFault` (20 R84): the trap an access raises, if any. -/
def State.memFault (s : State) (kind : AccessKind) (asi : Asi) (addr : Word) (n : Nat) (sup : Bool) : Option Trap :=
  (s.cfg.memFaults.find? (fun r => FaultRule.covers r kind asi addr n sup)).map (fun r => AccessTrap.trap r.trap)

/-- The bank that backs an address space, if any (20 R71). -/
def State.bankOf (s : State) (asi : Asi) : Option Nat := (s.cfg.banks.find? (fun b => b.1 == asi)).map (fun b => b.2)

/-- Where an access goes. -/
inductive Located where
  /-- To the storage with this key. -/
  | found (key : Nat)
  /-- Nowhere: it raises this trap. -/
  | trap (t : Trap)
  /-- Nowhere: the address space has no storage. -/
  | absent
  deriving DecidableEq, Repr

/-- Where an access of `n` bytes goes (20 R80, R84). -/
def State.locate (s : State) (kind : AccessKind) (asi : Asi) (addr : Word) (n : Nat) (sup : Bool) : Located :=
  match s.memFault kind asi addr n sup with
  | some t => .trap t
  | none =>
    match s.bankOf asi with
    | none => .absent
    | some bank => .found (Memory.key bank addr)

/-- The first key of the doubleword a key lies in. -/
def dwordKey (k : Nat) : Nat := k / 8 * 8

/-- What the instruction buffer keeps of the doubleword a store changes (20 R88; log 27). An older copy that a FLUSH has
doomed stays doomed. -/
def State.noteStore (k : Nat) (s : State) : State :=
  if s.cfg.ibufPresent then
    { s with
      ibuf := s.ibuf ++
        [{ key := dwordKey k, old := s.mem.filter (fun c => dwordKey c.1 == dwordKey k), flushLeft := none }] }
  else s

/-- Storing one byte. -/
def State.store1 (k : Nat) (v : Byte) (s : State) : State := { s.noteStore k with mem := s.mem.write1 k v }

/-- Storing a halfword. -/
def State.store2 (k : Nat) (v : Half) (s : State) : State := { s.noteStore k with mem := s.mem.write2 k v }

/-- Storing a word. -/
def State.store4 (k : Nat) (v : Word) (s : State) : State := { s.noteStore k with mem := s.mem.write4 k v }

/-- Storing a doubleword. -/
def State.store8 (k : Nat) (v : Dword) (s : State) : State := { s.noteStore k with mem := s.mem.write8 k v }

/-! ### How an instruction ends (10_state R27) -/

/-- A window one instruction further on (70 R524; log 34). -/
def PendingWrite.age (p : PendingWrite) : Option PendingWrite :=
  if p.left ≤ 1 then none else some { p with left := p.left - 1 }

/-- A stale doubleword one instruction further on (20 R88). -/
def StaleDword.age (e : StaleDword) : Option StaleDword :=
  match e.flushLeft with
  | none => some e
  | some n => if n ≤ 1 then none else some { e with flushLeft := some (n - 1) }

/-- One more instruction has executed: the windows counted in instructions move on. -/
def State.retire (s : State) : State :=
  { s with
    pending := s.pending.filterMap PendingWrite.age
    afterFpop2 := false
    afterJmpl := false
    ldfsrLeft := s.ldfsrLeft - 1
    ibuf := s.ibuf.filterMap StaleDword.age
    freeCount := s.freeCount + 1 }

/-- `advance` (R27): the ordinary end of an instruction. -/
def State.advance (s : State) : State := { s.retire with pc := s.npc, npc := s.npc + 4 }

/-- `delayed(target)` (R27): a delayed control transfer. -/
def State.delayed (target : Word) (s : State) : State := { s.retire with pc := s.npc, npc := target }

/-- The instruction at PC is annulled: it is skipped, without being fetched (R27). -/
def State.skip (s : State) : State :=
  { s with annul := false, pc := s.npc, npc := s.npc + 4, freeCount := s.freeCount + 1 }

/-- Opening the window of a write state register instruction (48 R392), after it has retired. -/
def State.openWindow (r : StateReg) (changed old : Word) (s : State) : State :=
  { s with pending := s.pending ++ [{ reg := r, left := 3, changed := changed, old := old }] }

/-! ### Taking a trap and returning from one (60 R472, R480, R484, 47 R352) -/

/-- The trap type codes (60 R472). -/
def Trap.tt : Trap → BitVec 8
  | .dataStoreError => 0x2B
  | .instructionAccessError => 0x21
  | .rRegisterAccessError => 0x20
  | .instructionAccessException => 0x01
  | .privilegedInstruction => 0x03
  | .illegalInstruction => 0x02
  | .fpDisabled => 0x04
  | .cpDisabled => 0x24
  | .unimplementedFlush => 0x25
  | .windowOverflow => 0x05
  | .windowUnderflow => 0x06
  | .memAddressNotAligned => 0x07
  | .fpException => 0x08
  | .cpException => 0x28
  | .dataAccessError => 0x29
  | .dataAccessException => 0x09
  | .tagOverflow => 0x0A
  | .divisionByZero => 0x2A
  | .trapInstruction n => 1#1 ++ n
  | .interrupt level => 1#4 ++ level

/-- A window that a trap finds open (48 R392; log 7): it stays open for what is not a read state register instruction, but
for the fields of the PSR that the trap itself writes. -/
def PendingWrite.throughTrap (p : PendingWrite) : PendingWrite :=
  { p with
    handled := true
    handlers := p.handlers + 1
    changed := if p.reg = .psr then p.changed &&& ~~~(sMask ||| psMask ||| etMask ||| cwpMask) else p.changed }

/-- A window after a RETT, which leaves the handler of the last trap taken in it: outside every handler read state register
instructions find it open again (48 R392, statement 2; log 7). -/
def PendingWrite.leaveHandler (p : PendingWrite) : PendingWrite := { p with handlers := p.handlers - 1 }

/-- Whether a trap may still use the value before a write: S and CWP are settled by the first trap in the window. -/
def PendingWrite.mayUseOld (p : PendingWrite) (r : StateReg) : Bool := p.reg == r && !(r == .psr && p.handled)

/-- What the open windows of a register wrote over, where a trap may still use it. -/
def State.olds (s : State) (r : StateReg) : List Word := (s.pending.filter (fun p => p.mayUseOld r)).map (fun p => p.old)

/-- The CWP a trap reads: inside a WRPSR window the old or the new one (70 R525; log 7). -/
def State.trapCwp (s : State) : BitVec 5 := s.pick .trapWindow s.psr.cwp ((s.olds .psr).map (fun w => w.extractLsb' 0 5))

/-- The S a trap reads (70 R525). -/
def State.trapS (s : State) : Bool := s.pick .trapS s.psr.s ((s.olds .psr).map (fun w => w.getLsbD 7))

/-- The TBA a trap uses (70 R525). -/
def State.trapTba (s : State) : BitVec 20 := s.pick .trapTba s.tbr.tba ((s.olds .tbr).map (fun w => w.extractLsb' 12 20))

/-- The CWP a trap decrements: the source does not say which where the old one chose the window (70 R525; log 7). -/
def State.trapCwpLeft (s : State) : BitVec 5 :=
  if s.trapCwp = s.psr.cwp then s.psr.cwp else s.pick .trapCwp s.psr.cwp [s.trapCwp]

/-- The handler's address (60 R481). -/
def State.vector (s : State) (tt : BitVec 8) : Word := s.trapTba ++ tt ++ 0#4

/-- Trap entry, steps 2 to 7 (60 R480). The windows of write state register instructions go on in the handler
(`PendingWrite.throughTrap`). Two readings of the model: tt keeps what is written here inside a WRTBR window too (70 R524(a) by
its letter leaves it undefined, R525 and R480 speak of it as written; log 7), and a JMPL, an FPop2 or an LDFSR before the
instruction that trapped still counts as executed before the handler's first instruction (70 R527, R528, R530; log 34). -/
def State.trapEntry (tt : BitVec 8) (s : State) : State :=
  let w := s.prevWindow s.trapCwp
  let s1 := (s.writeRW w 17 s.pc).writeRW w 18 s.npc
  { s1 with
    psr := { s.psr with et := false, ps := s.trapS, s := true, cwp := s.prevWindow s.trapCwpLeft }
    tbr := { s.tbr with tt := tt }
    pc := s.vector tt
    npc := s.vector tt + 4
    pending := s.pending.map PendingWrite.throughTrap
    fetchDoubt := false
    freeCount := s.freeCount + 1 }

/-- `error_halt` (60 R484, 47 R353): tt is written, the processor stops, nothing else changes. Inside a WRTBR window tt keeps
what is written here (70 R524(a), R521; the model's reading, log 7). -/
def State.errorHalt (t : Trap) (s : State) : State :=
  { s with tbr := { s.tbr with tt := t.tt }, errorMode := true }

/-- A trap condition (00_scope R15): trap entry, or error_mode when traps are disabled. -/
def State.trap (t : Trap) (s : State) : State := if s.seenEt then s.trapEntry t.tt else s.errorHalt t

/-- `raise T`. -/
def State.raise (t : Trap) (s : State) : Out := .next (s.trap t)

/-- `raise fp_exception(ftt = k)` (60 R478): ftt is written when the trap is taken (10_state R42; log 33). -/
def State.raiseFp (k : BitVec 3) (s : State) : Out :=
  .next (if s.seenEt then { s with fsr := { s.fsr with ftt := k } }.trapEntry Trap.fpException.tt
    else s.errorHalt .fpException)

/-- RETT's own effect (47 R352): the next window, S from PS, ET set, a delayed transfer to `target`; the handler is left
(`PendingWrite.leaveHandler`). -/
def State.returnFromTrap (target : Word) (s : State) : State :=
  let s1 := s.writeCwp (s.nextWindow s.seenCwp)
  let s2 :=
    if s.inWindow .psr then
      { s1 with psr := { s1.psr with s := s.drawBit .sAfter, et := s.drawBit .etAfter }, pending := spoil .psr (sMask ||| etMask) s1.pending }
    else { s1 with psr := { s1.psr with s := s.seenPs, et := true } }
  let t := s2.delayed target
  { t with fetchDoubt := !s.afterJmpl, pending := t.pending.map PendingWrite.leaveHandler }

/-! ### Reset, interrupts, asynchronous traps, fetch -/

/-- Reset (70 R520): nothing else is written. Three choices of the model: what R53 calls unspecified keeps the value it had
(PSR but S and ET, WIM, TBA, Y, the ASRs, r, f, FSR, FQ, the coprocessor and, as R53 says, tt; log 37), no hazard of an
FPop2, a JMPL, an LDFSR or a RETT before the reset reaches past it (70 R527, R528, R530; log 38), and a store failure still
to be reported, like the other inputs, outlives it, so that the next step takes it and, ET being 0, enters error_mode
(neither R53 nor R520 speaks of it; log 37). -/
def State.takeReset (s : State) : State :=
  { s with
    resetReq := false
    errorMode := false
    annul := false
    pending := []
    ibuf := []
    afterFpop2 := false
    afterJmpl := false
    ldfsrLeft := 0
    fetchDoubt := false
    psr := { s.psr with s := true, et := false }
    pc := 0
    npc := 4
    freeCount := s.freeCount + 1 }

/-- Step 0 of trap entry (60 R480): an annulled instruction at PC is discarded. -/
def State.discardAnnulled (s : State) : State :=
  if s.annul then { s with annul := false, pc := s.npc, npc := s.npc + 4 } else s

/-- The spurious interrupt right after a WRPSR that changed PIL and set ET (70 R526), at the old PIL (48 R392, statement 3)
or above it (60 R488; log 8). -/
def State.oldPilAdmits (s : State) : Bool :=
  s.cfg.pilQuirk && s.drawBit .oldPil &&
    s.pending.any (fun p => p.reg == .psr && p.left == 3 && !p.handled && p.old.extractLsb' 8 4 != s.psr.pil &&
      decide (p.old.extractLsb' 8 4 ≤ s.irl))

/-- `interrupt_taken()` (60 R486). In the permissive variant of R488 the old PIL may admit an interrupt that the new one holds
off, and never holds off one that the new one admits (the model's choice, log 8). -/
def State.interruptTaken (s : State) : Bool :=
  s.psr.et && s.irl != 0 && (s.irl == 15 || decide (s.psr.pil < s.irl) || s.oldPilAdmits)

/-- Taking the interrupt (60 R486, R487). -/
def State.takeInterrupt (s : State) : State := s.discardAnnulled.trapEntry (Trap.interrupt s.irl).tt

/-- Reporting a store failure after the store (60 R476(c)): the report is consumed, and with traps disabled it leads to
error_mode like a synchronous trap (60 R484; the model's choice, log 15). -/
def State.takeStoreError (s : State) : State := { s with storeError := false }.discardAnnulled.trap .dataStoreError

/-- Whether a fetch is a supervisor fetch (20 R71, 70 R530). -/
def State.fetchSupervisor (s : State) : Bool := if s.fetchDoubt then s.drawBit .fetchSpace else s.seenS

/-- InstrASI() (20 R71). -/
def State.instrAsi (s : State) : Asi := if s.fetchSupervisor then 0x09 else 0x08

/-- The memory a fetch at a key reads: memory, or an old copy of a stale doubleword (20 R88, 70 R529). -/
def State.fetchMemory (s : State) (k : Nat) : Memory :=
  s.pick .fetchCopy s.mem ((s.ibuf.filter (fun e => e.key == dwordKey k)).map (fun e => e.old))

/-- What a fetch answers. -/
inductive Fetched where
  | word (w : Word)
  | trap (t : Trap)
  | absent (asi : Asi)
  | unwritten
  deriving DecidableEq, Repr

/-- Fetching the instruction at PC (10_state R27, 20 R76). -/
def State.fetch (s : State) : Fetched :=
  match s.locate .fetch s.instrAsi s.pc 4 s.fetchSupervisor with
  | .trap t => .trap t
  | .absent => .absent s.instrAsi
  | .found k =>
    match (s.fetchMemory k).read4 k with
    | none => .unwritten
    | some w => .word w

/-- The key the next instruction is fetched from where no rule of the oracle answers. -/
def State.fetchKey (s : State) : Nat := Memory.key ((s.bankOf s.instrAsi).getD 0) s.pc

/-- A state whose next step fetches the word `w` and nothing comes before it: the word stands at PC, no reset, interrupt,
store failure, annulment, error_mode or stale copy is in the way (log 30). -/
def State.placeInstruction (w : Word) (s : State) : State :=
  { s with
    mem := s.mem.write4 s.fetchKey w
    annul := false
    errorMode := false
    irl := 0
    resetReq := false
    storeError := false
    ibuf := [] }

end Sys2Proof.Machine
end

