-- ==== Sys2Proof/Machine/Flags.lean ====
section
/-! DEFINITION. Every condition code computation and every condition test: logical, add, subtract, tagged, multiply, divide,
the integer conditions, the floating-point and the coprocessor conditions. -/

namespace Sys2Proof.Machine

/-- `logic_icc` (43 R212). -/
def logicIcc (res : Word) : Icc where
  n := res.getLsbD 31
  z := res == 0
  v := false
  c := false

/-- `add_icc` (44 R240). -/
def addIcc (a b res : Word) : Icc where
  n := res.getLsbD 31
  z := res == 0
  v := (a.getLsbD 31 && b.getLsbD 31 && !res.getLsbD 31) || (!a.getLsbD 31 && !b.getLsbD 31 && res.getLsbD 31)
  c := (a.getLsbD 31 && b.getLsbD 31) || (!res.getLsbD 31 && (a.getLsbD 31 || b.getLsbD 31))

/-- `sub_icc` (44 R241): C is the borrow. -/
def subIcc (a b res : Word) : Icc where
  n := res.getLsbD 31
  z := res == 0
  v := (a.getLsbD 31 && !b.getLsbD 31 && !res.getLsbD 31) || (!a.getLsbD 31 && b.getLsbD 31 && res.getLsbD 31)
  c := (!a.getLsbD 31 && b.getLsbD 31) || (res.getLsbD 31 && (!a.getLsbD 31 || b.getLsbD 31))

/-- A word's tag is not zero (44 R247). -/
def tagged (a : Word) : Bool := a.extractLsb' 0 2 != 0

/-- `tag_overflow_add` (44 R247). -/
def tagOverflowAdd (a b res : Word) : Bool := tagged a || tagged b || (addIcc a b res).v

/-- `tag_overflow_sub` (44 R254). -/
def tagOverflowSub (a b res : Word) : Bool := tagged a || tagged b || (subIcc a b res).v

/-- The condition codes of UMULcc and SMULcc (45 R262): N and Z from the low word, V and C zero. -/
def mulIcc (low : Word) : Icc where
  n := low.getLsbD 31
  z := low == 0
  v := false
  c := false

/-- The condition codes of UDIVcc and SDIVcc (45 R267): from the quotient written, V the overflow. -/
def divIcc (q : Word) (overflow : Bool) : Icc where
  n := q.getLsbD 31
  z := q == 0
  v := overflow
  c := false

/-- The condition tests of Bicc and Ticc but for always and never (46 R284, 47 R355). -/
inductive IccCond where
  | ne
  | e
  | g
  | le
  | ge
  | l
  | gu
  | leu
  | cc
  | cs
  | pos
  | neg
  | vc
  | vs
  deriving DecidableEq, Repr

/-- Whether a test holds (46 R284). -/
def IccCond.holds (i : Icc) : IccCond → Bool
  | .ne => !i.z
  | .e => i.z
  | .g => !(i.z || (i.n ^^ i.v))
  | .le => i.z || (i.n ^^ i.v)
  | .ge => !(i.n ^^ i.v)
  | .l => i.n ^^ i.v
  | .gu => !(i.c || i.z)
  | .leu => i.c || i.z
  | .cc => !i.c
  | .cs => i.c
  | .pos => !i.n
  | .neg => i.n
  | .vc => !i.v
  | .vs => i.v

/-- Whether a two-bit condition lies in a list of values (46 R302, R320). -/
def ccIn (values : List (BitVec 2)) (cc : BitVec 2) : Bool := values.contains cc

end Sys2Proof.Machine
end

