-- ==== Sys2Proof/Machine/Operands.lean ====
section
/-! DEFINITION. Every operand form: second operands, effective addresses, shift counts, trap numbers, branch targets, and
f register operands by precision. -/

namespace Sys2Proof.Machine

/-- `op2val` (00_scope R13): r[rs2], or the sign-extended simm13. -/
def State.op2val (s : State) : Operand2 → Word
  | .reg rs2 => s.readR rs2
  | .imm simm13 => simm13.signExtend 32

/-- The effective address `ea` (R13), modulo 2^32. -/
def State.effectiveAddress (s : State) (rs1 : RegNum) (operand : Operand2) : Word := s.readR rs1 + s.op2val operand

/-- Whether an address is a multiple of the width of an access (20 R74). -/
def aligned (n : Nat) (ea : Word) : Bool := ea.toNat % n == 0

/-- The shift count (43 R225): the five low bits of r[rs2], or shcnt. -/
def State.shiftCount (s : State) : ShiftCount → Nat
  | .reg rs2 => ((s.readR rs2).extractLsb' 0 5).toNat
  | .imm shcnt => shcnt.toNat

/-- The second operand of Ticc (47 R354, D30). -/
def State.trapOperand (s : State) : TrapOperand → Word
  | .reg rs2 => s.readR rs2
  | .imm imm7 => imm7.setWidth 32

/-- The software trap number: bits 6:0 of the sum (47 R354). -/
def State.trapNumber (s : State) (rs1 : RegNum) (operand : TrapOperand) : BitVec 7 :=
  (s.readR rs1 + s.trapOperand operand).extractLsb' 0 7

/-- A branch target PC + 4 * sext_32(disp22) (46 R283). -/
def State.branchTarget (s : State) (disp22 : BitVec 22) : Word := s.pc + (disp22 ++ 0#2).signExtend 32

/-- The CALL target PC + (disp30 :: 00) (47 R350). -/
def State.callTarget (s : State) (disp30 : BitVec 30) : Word := s.pc + (disp30 ++ 0#2)

/-- The precision of an f register operand (49 R411); `single` also stands for a 32-bit integer. -/
inductive Prec where
  | single
  | double
  | quad
  deriving DecidableEq, Repr

/-- Whether an f register number is aligned for a precision (49 R411). -/
def Prec.alignedReg (p : Prec) (n : RegNum) : Bool :=
  match p with
  | .single => true
  | .double => n &&& 1 == 0
  | .quad => n &&& 3 == 0

/-- The bits of an f register operand. -/
def State.readFp (s : State) (p : Prec) (n : RegNum) : Nat :=
  match p with
  | .single => (s.readF n).toNat
  | .double => (s.readFd n).toNat
  | .quad => (s.readFq n).toNat

/-- Writing the bits of a result to the f registers of a precision. -/
def State.writeFp (p : Prec) (n : RegNum) (v : Nat) (s : State) : State :=
  match p with
  | .single => s.writeF n (BitVec.ofNat 32 v)
  | .double => s.writeFd n (BitVec.ofNat 64 v)
  | .quad => s.writeFq n (BitVec.ofNat 128 v)

/-- `op2val` of a WRASR (48 R386, R391). -/
def State.asrOp2val (s : State) : AsrOperand → Word
  | .reg _ rs2 => s.readR rs2
  | .imm simm13 => simm13.signExtend 32

/-- Bits 18:0 of a WRASR, whose interpretation is the implementation's (48 R391). -/
def asrFields (rs1 : RegNum) (operand : AsrOperand) : BitVec 19 := rs1 ++ operand.bits

/-! ### The register file as the oracle sees it (20 R84, 60 R471; log 36) -/

/-- Whether op3 of an op = 3 word is a store's of integer registers or a SWAP's, which read r[rd] (41 R170, 42 R203). -/
def storesRd (op3 : BitVec 6) : Bool :=
  [0x04#6, 0x05#6, 0x06#6, 0x07#6, 0x0F#6, 0x14#6, 0x15#6, 0x16#6, 0x17#6, 0x1F#6].contains op3

/-- Whether op3 of an op = 2 word is of an instruction without r operands: the FPops, the CPops and the read state register
instructions. -/
def noSources (op3 : BitVec 6) : Bool :=
  [0x28#6, 0x29#6, 0x2A#6, 0x2B#6, 0x34#6, 0x35#6, 0x36#6, 0x37#6].contains op3

/-- rs1 and, with i = 0, rs2 of a format 3 word (30 R105). -/
def operandRegisters (w : Word) : List RegNum :=
  w.extractLsb' 14 5 :: (if w.getLsbD 13 then [] else [w.extractLsb' 0 5])

/-- rd of a store's word, both registers of a doubleword (00_scope R11). -/
def storedRegisters (w : Word) : List RegNum :=
  if w.extractLsb' 19 4 == 0x7 then [evenReg (w.extractLsb' 25 5), oddReg (w.extractLsb' 25 5)] else [w.extractLsb' 25 5]

/-- Whether a word of op = 2 is TN's, which ignores r[rs1] and its second operand (47 R357). -/
def trapsNever (w : Word) : Bool := w.extractLsb' 19 6 == 0x3A && w.extractLsb' 25 4 == 0x0

/-- The r registers that the instruction of a word reads (10_state R25). TN's are not among them: R25 has every format 3
instruction but those it names read r[rs1] and r[rs2], 47 R357, of TN alone, has it ignore them and never trap, and the model
follows R357 (its choice, log 36). -/
def sourceRegisters (w : Word) : List RegNum :=
  match w.extractLsb' 30 2 with
  | 0x2#2 => if noSources (w.extractLsb' 19 6) || trapsNever w then [] else operandRegisters w
  | 0x3#2 => operandRegisters w ++ (if storesRd (w.extractLsb' 19 6) then storedRegisters w else [])
  | _ => []

/-- The number of the cell of r[n]: 0 to 7 for the globals, 8 on for the windowed registers (10_state R22). -/
def State.registerCell (s : State) (n : RegNum) : Nat := if n.toNat < 8 then n.toNat else 8 + s.cell s.seenCwp n

/-- The trap that the oracle raises for reading r[n], if any. -/
def State.registerTrap (s : State) (n : RegNum) : Option Trap :=
  s.memFault .register s.instrAsi (BitVec.ofNat 32 (s.registerCell n)) 4 s.seenS

/-- The trap that the oracle raises for a register the instruction of a word reads, if any. -/
def State.registerFault (s : State) (w : Word) : Option Trap := (sourceRegisters w).findSome? s.registerTrap

end Sys2Proof.Machine
end

