-- ==== Sys2Proof/Machine/AddSub.lean ====
section
/-! DEFINITION. Add, subtract and tagged arithmetic (44_add_sub). -/

namespace Sys2Proof.Machine

/-- PSR.icc.C as a word, the carry in of the extended forms (R245, R252). -/
def State.carry (s : State) : Word := (BitVec.ofBool s.seenIcc.c).setWidth 32

/-- A sum or difference written to r[rd] (R242, R250). -/
def arith (f : Word → Word → Word) (rd rs1 : RegNum) (operand : Operand2) (s : State) : Out :=
  .next (s.writeR rd (f (s.readR rs1) (s.op2val operand))).advance

/-- A sum or difference written to r[rd], and condition codes from the operands and the result (R240, R241). -/
def arithCc (f : Word → Word → Word) (icc : Word → Word → Word → Icc) (rd rs1 : RegNum) (operand : Operand2)
    (s : State) : Out :=
  let a := s.readR rs1
  let b := s.op2val operand
  let res := f a b
  .next ((s.writeR rd res).writeIcc (icc a b res)).advance

/-- A tagged sum or difference that traps on tag overflow (R249, R256). -/
def taggedTrap (f : Word → Word → Word) (overflow : Word → Word → Word → Bool) (icc : Word → Word → Word → Icc)
    (rd rs1 : RegNum) (operand : Operand2) (s : State) : Out :=
  let a := s.readR rs1
  let b := s.op2val operand
  let res := f a b
  if overflow a b res then s.raise .tagOverflow
  else .next ((s.writeR rd res).writeIcc { icc a b res with v := false }).advance

/-- ADD: add (R243). -/
def execAdd (rd rs1 : RegNum) (operand : Operand2) (s : State) : Out :=
  arith (fun a b => a + b) rd rs1 operand s

/-- ADDcc: add and modify icc (R244). -/
def execAddcc (rd rs1 : RegNum) (operand : Operand2) (s : State) : Out :=
  arithCc (fun a b => a + b) addIcc rd rs1 operand s

/-- ADDX: add with carry (R245). -/
def execAddx (rd rs1 : RegNum) (operand : Operand2) (s : State) : Out :=
  arith (fun a b => a + b + s.carry) rd rs1 operand s

/-- ADDXcc: add with carry and modify icc (R246). -/
def execAddxcc (rd rs1 : RegNum) (operand : Operand2) (s : State) : Out :=
  arithCc (fun a b => a + b + s.carry) addIcc rd rs1 operand s

/-- TADDcc: tagged add and modify icc: V is the tag overflow (R248). -/
def execTaddcc (rd rs1 : RegNum) (operand : Operand2) (s : State) : Out :=
  arithCc (fun a b => a + b) (fun a b res => { addIcc a b res with v := tagOverflowAdd a b res }) rd rs1 operand s

/-- TADDccTV: tagged add, modify icc and trap on overflow (R249). -/
def execTaddcctv (rd rs1 : RegNum) (operand : Operand2) (s : State) : Out :=
  taggedTrap (fun a b => a + b) tagOverflowAdd addIcc rd rs1 operand s

/-- SUB: subtract (R250). -/
def execSub (rd rs1 : RegNum) (operand : Operand2) (s : State) : Out :=
  arith (fun a b => a - b) rd rs1 operand s

/-- SUBcc: subtract and modify icc (R251). -/
def execSubcc (rd rs1 : RegNum) (operand : Operand2) (s : State) : Out :=
  arithCc (fun a b => a - b) subIcc rd rs1 operand s

/-- SUBX: subtract with carry (R252). -/
def execSubx (rd rs1 : RegNum) (operand : Operand2) (s : State) : Out :=
  arith (fun a b => a - b - s.carry) rd rs1 operand s

/-- SUBXcc: subtract with carry and modify icc (R253). -/
def execSubxcc (rd rs1 : RegNum) (operand : Operand2) (s : State) : Out :=
  arithCc (fun a b => a - b - s.carry) subIcc rd rs1 operand s

/-- TSUBcc: tagged subtract and modify icc: V is the tag overflow (R255). -/
def execTsubcc (rd rs1 : RegNum) (operand : Operand2) (s : State) : Out :=
  arithCc (fun a b => a - b) (fun a b res => { subIcc a b res with v := tagOverflowSub a b res }) rd rs1 operand s

/-- TSUBccTV: tagged subtract, modify icc and trap on overflow (R256). -/
def execTsubcctv (rd rs1 : RegNum) (operand : Operand2) (s : State) : Out :=
  taggedTrap (fun a b => a - b) tagOverflowSub subIcc rd rs1 operand s

end Sys2Proof.Machine
end

