-- ==== Sys2Proof/Machine/Access.lean ====
section
/-! DEFINITION. The shared operations of loads, stores and atomics: the checks in priority order (40 R140, 41 R170, 42 R200, 60 R474), the
access itself, and what a data access trap may leave behind (20 R90, 70 R535; log 14). -/

namespace Sys2Proof.Machine

/-- A read access: the trap it raises leaves `spoiled`, else `k` goes on with the value read. -/
def readAt {α : Type} (kind : AccessKind) (n : Nat) (read : Memory → Nat → Option α) (spoiled : State → State)
    (asi : Asi) (ea : Word) (k : Nat → α → State → Out) (s : State) : Out :=
  match s.locate kind asi ea n s.seenS with
  | .trap t => (spoiled s).raise t
  | .absent => .refused (.asiWithoutStorage asi)
  | .found key =>
    match read s.mem key with
    | none => .fault .memoryUnwritten
    | some v => k key v s

/-- A load of `n` bytes once every check has passed but alignment. -/
def loadAt {α : Type} (n : Nat) (read : Memory → Nat → Option α) (write : α → State → State) (spoiled : State → State)
    (asi : Asi) (ea : Word) (s : State) : Out :=
  if !aligned n ea then s.raise .memAddressNotAligned
  else readAt .read n read spoiled asi ea (fun _ v t => .next (write v t).advance) s

/-- A store of `n` bytes once every check has passed but alignment; `spoiled` is what a data access trap may leave at the
key (20 R90(d)). -/
def storeAt (n : Nat) (store : Nat → State → State) (spoiled : Nat → State → State) (asi : Asi) (ea : Word) (s : State) :
    Out :=
  if !aligned n ea then s.raise .memAddressNotAligned
  else
    match s.locate .write asi ea n s.seenS with
    | .trap t =>
      match s.bankOf asi with
      | none => s.raise t
      | some bank => (spoiled (Memory.key bank ea) s).raise t
    | .absent => .refused (.asiWithoutStorage asi)
    | .found key => .next (store key s).advance

/-- An atomic: the read and the write are one access (42 R200). -/
def atomicAt {α : Type} (n : Nat) (read : Memory → Nat → Option α) (store : Nat → State → State)
    (write : α → State → State) (spoiled : State → State) (asi : Asi) (ea : Word) (s : State) : Out :=
  if !aligned n ea then s.raise .memAddressNotAligned
  else readAt .atomic n read spoiled asi ea (fun key v t => .next (write v (store key t)).advance) s

/-- The check of doubleword accesses (D17): an odd rd raises illegal_instruction where ODD_RD_TRAPS. -/
def oddRdTrap (s : State) (double : Bool) (rd : RegNum) : Bool := double && s.cfg.oddRdTraps && rd.getLsbD 0

/-- The checks of an ordinary access: then `k` with the data space and the effective address (R140, R170, R200). -/
def ordinary (double : Bool) (rd rs1 : RegNum) (operand : Operand2) (k : Asi → Word → State → Out) (s : State) : Out :=
  if oddRdTrap s double rd then s.raise .illegalInstruction
  else k s.dataAsi (s.effectiveAddress rs1 operand) s

/-- The checks of an alternate-space access: privileged, i = 0, the pair (R140, R170, R200). -/
def alternate (double : Bool) (rd rs1 : RegNum) (operand : AltOperand) (k : Asi → Word → State → Out) (s : State) : Out :=
  if !s.seenS then s.raise .privilegedInstruction
  else
    match operand with
    | .imm _ => s.raise .illegalInstruction
    | .reg asi rs2 =>
      if oddRdTrap s double rd then s.raise .illegalInstruction
      else k asi (s.readR rs1 + s.readR rs2) s

/-- r[rd] after a load that took a data access trap: any value (20 R90). -/
def spoilR (rd : RegNum) (s : State) : State := s.writeR rd (s.drawWord .loadDest)

/-- The pair after such a doubleword load: any values. -/
def spoilRPair (rd : RegNum) (s : State) : State :=
  s.writeRPair rd (s.drawWord .loadDest ++ s.drawWord .loadDest2)

/-- The first word of a doubleword store that took a data access trap: any value (20 R90(d)). -/
def spoilFirstWord (key : Nat) (s : State) : State := s.store4 key (s.drawWord .storeWord)

/-- Nothing is left behind. -/
def spoilNothing (_ : Nat) (s : State) : State := s

/-- A load of `n` bytes whose value, extended to 32 bits, goes to r[rd]. -/
def loadInteger {w : Nat} (n : Nat) (read : Memory → Nat → Option (BitVec w)) (extend : BitVec w → Word) (rd : RegNum) :
    Asi → Word → State → Out :=
  loadAt n read (fun v s => s.writeR rd (extend v)) (spoilR rd)

/-- A load of a doubleword into a register pair (R146). -/
def loadDouble (rd : RegNum) : Asi → Word → State → Out :=
  loadAt 8 Memory.read8 (fun v s => s.writeRPair rd v) (spoilRPair rd)

/-- Sign extension to 32 bits, `sext_32` (00_scope R10). -/
def sext {w : Nat} (v : BitVec w) : Word := v.signExtend 32

/-- Zero extension to 32 bits, `zext_32` (R10). -/
def zext {w : Nat} (v : BitVec w) : Word := v.setWidth 32

/-- FP loads and stores: EF and an FPU (10_state R31). -/
def State.fpEnabled (s : State) : Bool := s.seenEf && s.cfg.fpuPresent

/-- Coprocessor instructions: EC and a coprocessor (10_state R31). -/
def State.cpEnabled (s : State) : Bool := s.seenEc && s.cfg.cpPresent

/-- The coprocessor's cp_exception (60 R479; log 19): the input is consumed by the trap. -/
def State.raiseCp (s : State) : Out :=
  .next (if s.seenEt then { s with cpExc := false }.trapEntry Trap.cpException.tt else s.errorHalt .cpException)

/-- The FPU holds a deferred trap or its queue is not empty (40 R153, 60 R478; log 17). -/
def State.fpInException (s : State) : Bool := s.cfg.fqPresent && (s.fpPending.isSome || !s.fq.isEmpty)

/-- `load_fp_checks` and `store_fp_checks` up to the access (40 R153, 41 R179): `privileged` for STDFQ, `sequenced`
for the sequence_error line (of the loads, and of the stores where the FPU has it: log 17), `double` for the register check.
That the line comes before the register check is R153's for the loads and the model's choice for STDF (log 17). -/
def fpAccess (privileged sequenced double : Bool) (n : Nat) (rd rs1 : RegNum) (operand : Operand2)
    (k : Asi → Word → State → Out) (s : State) : Out :=
  if privileged && !s.seenS then s.raise .privilegedInstruction
  else if !s.fpEnabled then s.raise .fpDisabled
  else if !aligned n (s.effectiveAddress rs1 operand) then s.raise .memAddressNotAligned
  else if sequenced && s.fpInException then s.raiseFp 4
  else if double && s.cfg.fregAlignTraps && rd.getLsbD 0 then s.raiseFp 6
  else k s.dataAsi (s.effectiveAddress rs1 operand) s

/-- `load_cp_checks` and `store_cp_checks` up to the access (40 R157, 41 R184). -/
def cpAccess (privileged : Bool) (n : Nat) (rs1 : RegNum) (operand : Operand2) (k : Asi → Word → State → Out)
    (s : State) : Out :=
  if privileged && !s.seenS then s.raise .privilegedInstruction
  else if !s.cpEnabled then s.raise .cpDisabled
  else if !aligned n (s.effectiveAddress rs1 operand) then s.raise .memAddressNotAligned
  else if s.cpExc then s.raiseCp
  else k s.dataAsi (s.effectiveAddress rs1 operand) s

end Sys2Proof.Machine
end

