-- ==== Sys2Proof/Machine/Atomic.lean ====
section
/-! DEFINITION. The atomic load-store instructions (42 R200 to R204): the read and the write are one step. -/

namespace Sys2Proof.Machine

/-- The access of LDSTUB and LDSTUBA (R201): the byte is rewritten to all ones, its old value goes to r[rd]. -/
def loadStoreByte (rd : RegNum) : Asi → Word → State → Out :=
  atomicAt 1 Memory.read1 (State.store1 · 0xFF) (fun v s => s.writeR rd (zext v)) (spoilR rd)

/-- The access of SWAP and SWAPA (R203): the word and r[rd] change places. -/
def swapWord (rd : RegNum) (asi : Asi) (ea : Word) (s : State) : Out :=
  atomicAt 4 Memory.read4 (State.store4 · (s.readR rd)) (fun v t => t.writeR rd v) (spoilR rd) asi ea s

/-- LDSTUB: atomic load-store unsigned byte (R201). -/
def execLdstub (rd rs1 : RegNum) (operand : Operand2) (s : State) : Out :=
  ordinary false rd rs1 operand (loadStoreByte rd) s

/-- LDSTUBA: the same in an alternate space (R202). -/
def execLdstuba (rd rs1 : RegNum) (operand : AltOperand) (s : State) : Out :=
  alternate false rd rs1 operand (loadStoreByte rd) s

/-- SWAP: swap r[rd] with a word of memory (R203). -/
def execSwap (rd rs1 : RegNum) (operand : Operand2) (s : State) : Out :=
  ordinary false rd rs1 operand (swapWord rd) s

/-- SWAPA: the same in an alternate space (R204). -/
def execSwapa (rd rs1 : RegNum) (operand : AltOperand) (s : State) : Out :=
  alternate false rd rs1 operand (swapWord rd) s

end Sys2Proof.Machine
end

