-- ==== Sys2Proof/Machine/Branch.lean ====
section
/-! DEFINITION. The three branch families (46 R283 to R336). -/

namespace Sys2Proof.Machine

/-- The annul flag set for the next instruction (R27). -/
def State.annulNext (a : Bool) (s : State) : State := { s with annul := a }

/-- `branch`, the case always (R283): the annul bit annuls the delay instruction. -/
def State.branchAlways (a : Bool) (disp22 : BitVec 22) (s : State) : State :=
  (s.delayed (s.branchTarget disp22)).annulNext a

/-- `branch`, the case never (R283). -/
def State.branchNever (a : Bool) (s : State) : State := s.advance.annulNext a

/-- `branch`, conditional (R283): the annul bit counts only when the branch is not taken. -/
def State.branchIf (test a : Bool) (disp22 : BitVec 22) (s : State) : State :=
  if test then s.delayed (s.branchTarget disp22) else s.advance.annulNext a

/-- A Bicc on a test of icc (R284). -/
def bicc (cond : IccCond) (a : Bool) (disp22 : BitVec 22) (s : State) : Out :=
  .next (s.branchIf (cond.holds s.seenIcc) a disp22)

/-- Taking a deferred floating-point trap (R301, 60 R476; log 17). -/
def State.takeDeferred (k : BitVec 3) (s : State) : Out :=
  .next (if s.seenEt then { s with fpPending := none, fsr := { s.fsr with ftt := k } }.trapEntry Trap.fpException.tt
    else s.errorHalt .fpException)

/-- A deferred floating-point trap that is pending (R51(f)). -/
def State.deferredTrap (s : State) : Option (BitVec 3) := if s.cfg.fqPresent then s.fpPending else none

/-- FSR.fcc as an FBfcc sees it: any value within three instructions of an LDFSR (70 R528; log 9). -/
def State.seenFcc (s : State) : BitVec 2 := if s.ldfsrLeft = 0 then s.fsr.fcc else (s.draw .fcc).setWidth 2

/-- An FBfcc right after an FPop2, whose result is undefined (70 R527; log 9): freely what FBA, what FBN or what a
conditional FBfcc does. -/
def State.branchAny (a : Bool) (disp22 : BitVec 22) (s : State) : State :=
  if (s.draw .fbfcc).getLsbD 1 then s.branchAlways a disp22 else s.branchIf (s.drawBit .fbfcc) a disp22

/-- The checks of FBfcc (R301, and sequence_error while the queue is not empty, 60 R478; log 17), then the branch. -/
def fbfcc (k : State → State) (a : Bool) (disp22 : BitVec 22) (s : State) : Out :=
  if !s.fpEnabled then s.raise .fpDisabled
  else
    match s.deferredTrap with
    | some t => s.takeDeferred t
    | none => if s.qne then s.raiseFp 4 else .next (if s.afterFpop2 then s.branchAny a disp22 else k s)

/-- An FBfcc whose test is that fcc lies in a list of values (R302). -/
def fbfccIn (values : List (BitVec 2)) (a : Bool) (disp22 : BitVec 22) (s : State) : Out :=
  fbfcc (fun t => t.branchIf (ccIn values t.seenFcc) a disp22) a disp22 s

/-- The checks of CBccc (R319), then the branch. -/
def cbccc (k : State → State) (s : State) : Out :=
  if !s.cpEnabled then s.raise .cpDisabled
  else if s.cpExc then s.raiseCp
  else .next (k s)

/-- A CBccc whose test is that bp_CP_cc lies in a list of values (R320). -/
def cbcccIn (values : List (BitVec 2)) (a : Bool) (disp22 : BitVec 22) (s : State) : Out :=
  cbccc (fun t => t.branchIf (ccIn values t.cp.cc) a disp22) s

/-- BA: branch always (R285). -/
def execBa (a : Bool) (disp22 : BitVec 22) (s : State) : Out :=
  .next (s.branchAlways a disp22)

/-- BN: branch never (R286). -/
def execBn (a : Bool) (_disp22 : BitVec 22) (s : State) : Out :=
  .next (s.branchNever a)

/-- BNE: branch on not equal (R287). -/
def execBne (a : Bool) (disp22 : BitVec 22) (s : State) : Out :=
  bicc .ne a disp22 s

/-- BE: branch on equal (R288). -/
def execBe (a : Bool) (disp22 : BitVec 22) (s : State) : Out :=
  bicc .e a disp22 s

/-- BG: branch on greater (R289). -/
def execBg (a : Bool) (disp22 : BitVec 22) (s : State) : Out :=
  bicc .g a disp22 s

/-- BLE: branch on less or equal (R290). -/
def execBle (a : Bool) (disp22 : BitVec 22) (s : State) : Out :=
  bicc .le a disp22 s

/-- BGE: branch on greater or equal (R291). -/
def execBge (a : Bool) (disp22 : BitVec 22) (s : State) : Out :=
  bicc .ge a disp22 s

/-- BL: branch on less (R292). -/
def execBl (a : Bool) (disp22 : BitVec 22) (s : State) : Out :=
  bicc .l a disp22 s

/-- BGU: branch on greater unsigned (R293). -/
def execBgu (a : Bool) (disp22 : BitVec 22) (s : State) : Out :=
  bicc .gu a disp22 s

/-- BLEU: branch on less or equal unsigned (R294). -/
def execBleu (a : Bool) (disp22 : BitVec 22) (s : State) : Out :=
  bicc .leu a disp22 s

/-- BCC: branch on carry clear (R295). -/
def execBcc (a : Bool) (disp22 : BitVec 22) (s : State) : Out :=
  bicc .cc a disp22 s

/-- BCS: branch on carry set (R296). -/
def execBcs (a : Bool) (disp22 : BitVec 22) (s : State) : Out :=
  bicc .cs a disp22 s

/-- BPOS: branch on positive (R297). -/
def execBpos (a : Bool) (disp22 : BitVec 22) (s : State) : Out :=
  bicc .pos a disp22 s

/-- BNEG: branch on negative (R298). -/
def execBneg (a : Bool) (disp22 : BitVec 22) (s : State) : Out :=
  bicc .neg a disp22 s

/-- BVC: branch on overflow clear (R299). -/
def execBvc (a : Bool) (disp22 : BitVec 22) (s : State) : Out :=
  bicc .vc a disp22 s

/-- BVS: branch on overflow set (R300). -/
def execBvs (a : Bool) (disp22 : BitVec 22) (s : State) : Out :=
  bicc .vs a disp22 s

/-- FBA: branch always, where floating point is enabled (R303). -/
def execFba (a : Bool) (disp22 : BitVec 22) (s : State) : Out :=
  fbfcc (fun t => t.branchAlways a disp22) a disp22 s

/-- FBN: branch never, where floating point is enabled (R304). -/
def execFbn (a : Bool) (disp22 : BitVec 22) (s : State) : Out :=
  fbfcc (fun t => t.branchNever a) a disp22 s

/-- FBU: branch when fcc is in 3 (R305). -/
def execFbu (a : Bool) (disp22 : BitVec 22) (s : State) : Out :=
  fbfccIn [3] a disp22 s

/-- FBG: branch when fcc is in 2 (R306). -/
def execFbg (a : Bool) (disp22 : BitVec 22) (s : State) : Out :=
  fbfccIn [2] a disp22 s

/-- FBUG: branch when fcc is in 2, 3 (R307). -/
def execFbug (a : Bool) (disp22 : BitVec 22) (s : State) : Out :=
  fbfccIn [2, 3] a disp22 s

/-- FBL: branch when fcc is in 1 (R308). -/
def execFbl (a : Bool) (disp22 : BitVec 22) (s : State) : Out :=
  fbfccIn [1] a disp22 s

/-- FBUL: branch when fcc is in 1, 3 (R309). -/
def execFbul (a : Bool) (disp22 : BitVec 22) (s : State) : Out :=
  fbfccIn [1, 3] a disp22 s

/-- FBLG: branch when fcc is in 1, 2 (R310). -/
def execFblg (a : Bool) (disp22 : BitVec 22) (s : State) : Out :=
  fbfccIn [1, 2] a disp22 s

/-- FBNE: branch when fcc is in 1, 2, 3 (R311). -/
def execFbne (a : Bool) (disp22 : BitVec 22) (s : State) : Out :=
  fbfccIn [1, 2, 3] a disp22 s

/-- FBE: branch when fcc is in 0 (R312). -/
def execFbe (a : Bool) (disp22 : BitVec 22) (s : State) : Out :=
  fbfccIn [0] a disp22 s

/-- FBUE: branch when fcc is in 0, 3 (R313). -/
def execFbue (a : Bool) (disp22 : BitVec 22) (s : State) : Out :=
  fbfccIn [0, 3] a disp22 s

/-- FBGE: branch when fcc is in 0, 2 (R314). -/
def execFbge (a : Bool) (disp22 : BitVec 22) (s : State) : Out :=
  fbfccIn [0, 2] a disp22 s

/-- FBUGE: branch when fcc is in 0, 2, 3 (R315). -/
def execFbuge (a : Bool) (disp22 : BitVec 22) (s : State) : Out :=
  fbfccIn [0, 2, 3] a disp22 s

/-- FBLE: branch when fcc is in 0, 1 (R316). -/
def execFble (a : Bool) (disp22 : BitVec 22) (s : State) : Out :=
  fbfccIn [0, 1] a disp22 s

/-- FBULE: branch when fcc is in 0, 1, 3 (R317). -/
def execFbule (a : Bool) (disp22 : BitVec 22) (s : State) : Out :=
  fbfccIn [0, 1, 3] a disp22 s

/-- FBO: branch when fcc is in 0, 1, 2 (R318). -/
def execFbo (a : Bool) (disp22 : BitVec 22) (s : State) : Out :=
  fbfccIn [0, 1, 2] a disp22 s

/-- CBA: branch always, where a coprocessor is enabled (R321). -/
def execCba (a : Bool) (disp22 : BitVec 22) (s : State) : Out :=
  cbccc (fun t => t.branchAlways a disp22) s

/-- CBN: branch never, where a coprocessor is enabled (R322). -/
def execCbn (a : Bool) (_disp22 : BitVec 22) (s : State) : Out :=
  cbccc (fun t => t.branchNever a) s

/-- CB3: branch when bp_CP_cc is in 3 (R323). -/
def execCb3 (a : Bool) (disp22 : BitVec 22) (s : State) : Out :=
  cbcccIn [3] a disp22 s

/-- CB2: branch when bp_CP_cc is in 2 (R324). -/
def execCb2 (a : Bool) (disp22 : BitVec 22) (s : State) : Out :=
  cbcccIn [2] a disp22 s

/-- CB23: branch when bp_CP_cc is in 2, 3 (R325). -/
def execCb23 (a : Bool) (disp22 : BitVec 22) (s : State) : Out :=
  cbcccIn [2, 3] a disp22 s

/-- CB1: branch when bp_CP_cc is in 1 (R326). -/
def execCb1 (a : Bool) (disp22 : BitVec 22) (s : State) : Out :=
  cbcccIn [1] a disp22 s

/-- CB13: branch when bp_CP_cc is in 1, 3 (R327). -/
def execCb13 (a : Bool) (disp22 : BitVec 22) (s : State) : Out :=
  cbcccIn [1, 3] a disp22 s

/-- CB12: branch when bp_CP_cc is in 1, 2 (R328). -/
def execCb12 (a : Bool) (disp22 : BitVec 22) (s : State) : Out :=
  cbcccIn [1, 2] a disp22 s

/-- CB123: branch when bp_CP_cc is in 1, 2, 3 (R329). -/
def execCb123 (a : Bool) (disp22 : BitVec 22) (s : State) : Out :=
  cbcccIn [1, 2, 3] a disp22 s

/-- CB0: branch when bp_CP_cc is in 0 (R330). -/
def execCb0 (a : Bool) (disp22 : BitVec 22) (s : State) : Out :=
  cbcccIn [0] a disp22 s

/-- CB03: branch when bp_CP_cc is in 0, 3 (R331). -/
def execCb03 (a : Bool) (disp22 : BitVec 22) (s : State) : Out :=
  cbcccIn [0, 3] a disp22 s

/-- CB02: branch when bp_CP_cc is in 0, 2 (R332). -/
def execCb02 (a : Bool) (disp22 : BitVec 22) (s : State) : Out :=
  cbcccIn [0, 2] a disp22 s

/-- CB023: branch when bp_CP_cc is in 0, 2, 3 (R333). -/
def execCb023 (a : Bool) (disp22 : BitVec 22) (s : State) : Out :=
  cbcccIn [0, 2, 3] a disp22 s

/-- CB01: branch when bp_CP_cc is in 0, 1 (R334). -/
def execCb01 (a : Bool) (disp22 : BitVec 22) (s : State) : Out :=
  cbcccIn [0, 1] a disp22 s

/-- CB013: branch when bp_CP_cc is in 0, 1, 3 (R335). -/
def execCb013 (a : Bool) (disp22 : BitVec 22) (s : State) : Out :=
  cbcccIn [0, 1, 3] a disp22 s

/-- CB012: branch when bp_CP_cc is in 0, 1, 2 (R336). -/
def execCb012 (a : Bool) (disp22 : BitVec 22) (s : State) : Out :=
  cbcccIn [0, 1, 2] a disp22 s

end Sys2Proof.Machine
end

