-- ==== Sys2Proof/Machine/Control.lean ====
section
/-! DEFINITION. CALL, JMPL, RETT and Ticc (47_call_jmpl_rett_ticc). -/

namespace Sys2Proof.Machine

/-- Marks that the instruction executed last was a JMPL (70 R530). -/
def State.markJmpl (s : State) : State := { s with afterJmpl := true }

/-- Whether the low two bits of a target are zero (47 R351). -/
def targetAligned (target : Word) : Bool := target.extractLsb' 0 2 == 0

/-- RETT (R352): the checks in priority order; with traps disabled a trap condition enters error_mode (R353). -/
def rettChecks (target : Word) (s : State) : Out :=
  if s.seenEt then (if s.seenS then s.raise .illegalInstruction else s.raise .privilegedInstruction)
  else if !s.seenS then .next (s.errorHalt .privilegedInstruction)
  else if s.windowMarked (s.nextWindow s.seenCwp) then .next (s.errorHalt .windowUnderflow)
  else if !targetAligned target then .next (s.errorHalt .memAddressNotAligned)
  else .next (s.returnFromTrap target)

/-- `ticc` (R354): trap_instruction with tt = 128 + n when the test holds, else like a NOP. -/
def ticc (test : Bool) (rs1 : RegNum) (operand : TrapOperand) (s : State) : Out :=
  if test then s.raise (.trapInstruction (s.trapNumber rs1 operand)) else .next s.advance

/-- CALL: call and link (R350). -/
def execCall (disp30 : BitVec 30) (s : State) : Out :=
  .next ((s.writeR 15 s.pc).delayed (s.callTarget disp30))

/-- JMPL: jump and link (R351). -/
def execJmpl (rd rs1 : RegNum) (operand : Operand2) (s : State) : Out :=
  let target := s.effectiveAddress rs1 operand
  if !targetAligned target then s.raise .memAddressNotAligned
  else .next ((s.writeR rd s.pc).delayed target).markJmpl

/-- RETT: return from trap; the target is computed in the window before it (D34) (R352). -/
def execRett (rs1 : RegNum) (operand : Operand2) (s : State) : Out :=
  rettChecks (s.effectiveAddress rs1 operand) s

/-- TA: trap always (R356). -/
def execTa (rs1 : RegNum) (operand : TrapOperand) (s : State) : Out :=
  ticc true rs1 operand s

/-- TN: trap never (R357). -/
def execTn (rs1 : RegNum) (operand : TrapOperand) (s : State) : Out :=
  ticc false rs1 operand s

/-- TNE: trap on not equal (R358). -/
def execTne (rs1 : RegNum) (operand : TrapOperand) (s : State) : Out :=
  ticc (IccCond.holds s.seenIcc .ne) rs1 operand s

/-- TE: trap on equal (R359). -/
def execTe (rs1 : RegNum) (operand : TrapOperand) (s : State) : Out :=
  ticc (IccCond.holds s.seenIcc .e) rs1 operand s

/-- TG: trap on greater (R360). -/
def execTg (rs1 : RegNum) (operand : TrapOperand) (s : State) : Out :=
  ticc (IccCond.holds s.seenIcc .g) rs1 operand s

/-- TLE: trap on less or equal (R361). -/
def execTle (rs1 : RegNum) (operand : TrapOperand) (s : State) : Out :=
  ticc (IccCond.holds s.seenIcc .le) rs1 operand s

/-- TGE: trap on greater or equal (R362). -/
def execTge (rs1 : RegNum) (operand : TrapOperand) (s : State) : Out :=
  ticc (IccCond.holds s.seenIcc .ge) rs1 operand s

/-- TL: trap on less (R363). -/
def execTl (rs1 : RegNum) (operand : TrapOperand) (s : State) : Out :=
  ticc (IccCond.holds s.seenIcc .l) rs1 operand s

/-- TGU: trap on greater unsigned (R364). -/
def execTgu (rs1 : RegNum) (operand : TrapOperand) (s : State) : Out :=
  ticc (IccCond.holds s.seenIcc .gu) rs1 operand s

/-- TLEU: trap on less or equal unsigned (R365). -/
def execTleu (rs1 : RegNum) (operand : TrapOperand) (s : State) : Out :=
  ticc (IccCond.holds s.seenIcc .leu) rs1 operand s

/-- TCC: trap on carry clear (R366). -/
def execTcc (rs1 : RegNum) (operand : TrapOperand) (s : State) : Out :=
  ticc (IccCond.holds s.seenIcc .cc) rs1 operand s

/-- TCS: trap on carry set (R367). -/
def execTcs (rs1 : RegNum) (operand : TrapOperand) (s : State) : Out :=
  ticc (IccCond.holds s.seenIcc .cs) rs1 operand s

/-- TPOS: trap on positive (R368). -/
def execTpos (rs1 : RegNum) (operand : TrapOperand) (s : State) : Out :=
  ticc (IccCond.holds s.seenIcc .pos) rs1 operand s

/-- TNEG: trap on negative (R369). -/
def execTneg (rs1 : RegNum) (operand : TrapOperand) (s : State) : Out :=
  ticc (IccCond.holds s.seenIcc .neg) rs1 operand s

/-- TVC: trap on overflow clear (R370). -/
def execTvc (rs1 : RegNum) (operand : TrapOperand) (s : State) : Out :=
  ticc (IccCond.holds s.seenIcc .vc) rs1 operand s

/-- TVS: trap on overflow set (R371). -/
def execTvs (rs1 : RegNum) (operand : TrapOperand) (s : State) : Out :=
  ticc (IccCond.holds s.seenIcc .vs) rs1 operand s

end Sys2Proof.Machine
end

