-- ==== Sys2Proof/Machine/Coproc.lean ====
section
/-! DEFINITION. The coprocessor operate instructions (49 R460 to R462). -/

namespace Sys2Proof.Machine

/-- The coprocessor executes an operation on its own state (R460; log 19). -/
def State.cpOperated (two : Bool) (rd rs1 : RegNum) (opc : BitVec 9) (rs2 : RegNum) (s : State) : Cp :=
  Config.cpOperate two rd rs1 opc rs2 s.cp

/-- `cpop` (R460): the checks, then the coprocessor's new state. -/
def cpop (k : State → Cp) (s : State) : Out :=
  if !s.cpEnabled then s.raise .cpDisabled
  else if s.cpExc then s.raiseCp
  else .next { s with cp := k s }.advance

/-- CPop1: coprocessor operate 1: bp_CP_cc is unchanged (R461). -/
def execCpop1 (rd rs1 : RegNum) (opc : BitVec 9) (rs2 : RegNum) (s : State) : Out :=
  cpop (fun t => { t.cpOperated false rd rs1 opc rs2 with cc := t.cp.cc }) s

/-- CPop2: coprocessor operate 2: bp_CP_cc may be written (R462). -/
def execCpop2 (rd rs1 : RegNum) (opc : BitVec 9) (rs2 : RegNum) (s : State) : Out :=
  cpop (fun t => t.cpOperated true rd rs1 opc rs2) s

end Sys2Proof.Machine
end

