-- ==== Sys2Proof/Machine/Float.lean ====
section
/-! DEFINITION. IEEE 754 arithmetic on bit patterns (10_state R46, 49 R412, R413): each operation computes the exact result
as an integer times a power of two (with a sticky bit where the quotient or root goes on) and rounds it once. -/

namespace Sys2Proof.Machine

/-- A binary format (10_state R46). -/
structure Format where
  ebits : Nat
  fbits : Nat
  deriving DecidableEq, Repr

/-- The format of a precision (R46). -/
def Prec.format : Prec → Format
  | .single => { ebits := 8, fbits := 23 }
  | .double => { ebits := 11, fbits := 52 }
  | .quad => { ebits := 15, fbits := 112 }

/-- The exponent bias. -/
def Format.bias (f : Format) : Nat := 2 ^ (f.ebits - 1) - 1

/-- The exponent of the last place of a denormalized number. -/
def Format.minQuantum (f : Format) : Int := 1 - (f.bias : Int) - (f.fbits : Int)

/-- The bits of +infinity. -/
def Format.infBits (f : Format) : Nat := (2 ^ f.ebits - 1) * 2 ^ f.fbits

/-- The bits of the sign. -/
def Format.signBits (f : Format) (sign : Bool) : Nat := if sign then 2 ^ (f.ebits + f.fbits) else 0

/-- The suggested generated NaN: positive, all fraction bits ones (49 R412). -/
def Format.defaultNan (f : Format) : Nat := 2 ^ (f.ebits + f.fbits) - 1

/-- A NaN made quiet: its most significant fraction bit set (49 R447). -/
def Format.quiet (f : Format) (b : Nat) : Nat := b ||| 2 ^ (f.fbits - 1)

/-- Any bits made into a quiet NaN. -/
def Format.toNan (f : Format) (b : Nat) : Nat := f.quiet (b % 2 ^ (1 + f.ebits + f.fbits) ||| f.infBits)

/-- What a bit pattern denotes: zero is a finite value of significand 0. -/
inductive FpVal where
  | finite (sign : Bool) (mant : Nat) (exp : Int)
  | inf (sign : Bool)
  | nan (signaling : Bool) (bits : Nat)
  deriving DecidableEq, Repr

/-- `val(v)` (49 R413). A signaling NaN has its most significant fraction bit 0 (49 R447). -/
def Format.unpack (f : Format) (b : Nat) : FpVal :=
  let frac := b % 2 ^ f.fbits
  let e := b / 2 ^ f.fbits % 2 ^ f.ebits
  let sign := b / 2 ^ (f.ebits + f.fbits) % 2 == 1
  if e = 2 ^ f.ebits - 1 then
    if frac = 0 then .inf sign else .nan (decide (frac < 2 ^ (f.fbits - 1))) (b % 2 ^ (1 + f.ebits + f.fbits))
  else if e = 0 then .finite sign frac f.minQuantum
  else .finite sign (2 ^ f.fbits + frac) (f.minQuantum + (e : Int) - 1)

/-- Whether a bit pattern is a denormalized number: NS may change its treatment (log 23). -/
def Format.denormal (f : Format) (b : Nat) : Bool :=
  b / 2 ^ f.fbits % 2 ^ f.ebits == 0 && b % 2 ^ f.fbits != 0

/-- The value with its sign complemented. -/
def FpVal.neg : FpVal → FpVal
  | .finite sign m e => .finite (!sign) m e
  | .inf sign => .inf (!sign)
  | .nan sig b => .nan sig b

/-- NV, invalid, in the order NV OF UF DZ NX (49 R412). -/
def excNV : BitVec 5 := 0x10

/-- OF, overflow. -/
def excOF : BitVec 5 := 0x08

/-- UF, underflow. -/
def excUF : BitVec 5 := 0x04

/-- DZ, division by zero. -/
def excDZ : BitVec 5 := 0x02

/-- NX, inexact. -/
def excNX : BitVec 5 := 0x01

/-- The bits an operation yields, as far as the manual fixes them. -/
inductive FpBits where
  /-- These bits. -/
  | exact (bits : Nat)
  /-- A NaN the operation generates (FP_NUMERICS). -/
  | generatedNan
  /-- A NaN operand made quiet (FP_NUMERICS). -/
  | operandNan (bits : Nat)
  /-- A quiet NaN of which no source says which: a NaN converted to another format (log 21). -/
  | convertedNan
  /-- The integer of an invalid conversion: of an operand of this sign, or of a NaN (FP_NUMERICS, log 24). -/
  | invalidInteger (negative : Option Bool)
  deriving DecidableEq, Repr

/-- What an operation yields (49 R412): bits, the exceptions it raises, and whether it is a tiny nonzero number. -/
structure FpResult where
  bits : FpBits
  exc : BitVec 5
  tiny : Bool
  deriving DecidableEq, Repr

/-- What rounding depends on (49 R412, R413): FSR.RD, the underflow mask, the tininess choice. -/
structure FpEnv where
  rd : BitVec 2
  ufm : Bool
  tininess : Tininess
  deriving DecidableEq, Repr

/-- An exact result. -/
def FpResult.ok (b : Nat) : FpResult := { bits := .exact b, exc := 0, tiny := false }

/-- An invalid operation that generates a NaN. -/
def FpResult.invalid : FpResult := { bits := .generatedNan, exc := excNV, tiny := false }

/-- Whether a significand cut with a remainder goes up (10_state R44): `half` compares the remainder with one half. -/
def roundsUp (rd : BitVec 2) (sign odd inexact : Bool) (half : Ordering) : Bool :=
  match rd with
  | 0#2 => half == .gt || (half == .eq && odd)
  | 1#2 => false
  | 2#2 => inexact && !sign
  | _ => inexact && sign

/-- A significand cut by 2^shift and rounded, and whether it was inexact; `sticky` stands for a nonzero rest below it. -/
def cutRound (rd : BitVec 2) (sign : Bool) (mant shift : Nat) (sticky : Bool) : Nat × Bool :=
  let q := mant / 2 ^ shift
  let rem := mant % 2 ^ shift
  let inexact := rem != 0 || sticky
  let half : Ordering :=
    if 2 * rem > 2 ^ shift then .gt
    else if 2 * rem = 2 ^ shift then (if sticky then .gt else .eq)
    else .lt
  (q + (if roundsUp rd sign (q % 2 == 1) inexact half then 1 else 0), inexact)

/-- The untrapped result of an overflow (49 R412): an infinity or the largest finite number. -/
def Format.overflowBits (f : Format) (rd : BitVec 2) (sign : Bool) : Nat :=
  match rd with
  | 0#2 => f.infBits
  | 1#2 => f.infBits - 1
  | 2#2 => if sign then f.infBits - 1 else f.infBits
  | _ => if sign then f.infBits else f.infBits - 1

/-- `round` (49 R413): (-1)^sign * mant * 2^exp, or slightly more where `sticky`, rounded once to the format. -/
def Format.round (f : Format) (env : FpEnv) (sign : Bool) (mant : Nat) (exp : Int) (sticky : Bool) : FpResult :=
  if mant = 0 then .ok (f.signBits sign)
  else
    let top : Int := exp + (Nat.log2 mant : Int)
    let natural : Int := top - (f.fbits : Int)
    let quantum : Int := max natural f.minQuantum
    let scaled : Nat := mant * 2 ^ (exp - quantum).toNat
    let r := cutRound env.rd sign scaled (quantum - exp).toNat sticky
    let unbounded := cutRound env.rd sign (mant * 2 ^ (exp - natural).toNat) (natural - exp).toNat sticky
    let bits := (quantum - f.minQuantum).toNat * 2 ^ f.fbits + r.1
    let below : Bool := decide (natural < f.minQuantum)
    let tiny : Bool :=
      match env.tininess with
      | .beforeRounding => below
      | .afterRounding => below && !(decide (natural + 1 = f.minQuantum) && unbounded.1 == 2 ^ (f.fbits + 1))
    if f.infBits ≤ bits then
      { bits := .exact (f.signBits sign + f.overflowBits env.rd sign), exc := excOF ||| excNX, tiny := false }
    else
      { bits := .exact (f.signBits sign + bits)
        exc := (if r.2 then excNX else 0) ||| (if tiny && (r.2 || env.ufm) then excUF else 0)
        tiny := tiny }

/-- The result where an operand is a NaN: rs2's when both are (49 R412), NV for a signaling one. -/
def nanResult (f : Format) (x y : FpVal) : FpResult :=
  match x, y with
  | .nan sx _, .nan sy by_ => { bits := .operandNan (f.quiet by_), exc := if sx || sy then excNV else 0, tiny := false }
  | .nan sx bx, _ => { bits := .operandNan (f.quiet bx), exc := if sx then excNV else 0, tiny := false }
  | _, .nan sy by_ => { bits := .operandNan (f.quiet by_), exc := if sy then excNV else 0, tiny := false }
  | _, _ => .ok 0

/-- The sign of an exact sum (49 R433): a zero sum of operands of opposite sign is +0, or -0 when RD is 3. -/
def sumSign (rd : BitVec 2) (sx sy : Bool) (sum : Int) : Bool :=
  if sum = 0 then (if sx = sy then sx else rd == 3) else decide (sum < 0)

/-- A significand with its sign. -/
def signedMant (sign : Bool) (m : Nat) : Int := if sign then -(m : Int) else (m : Int)

/-- Addition of values (49 R433). -/
def Format.addVal (f : Format) (env : FpEnv) (x y : FpVal) : FpResult :=
  match x, y with
  | .finite sx mx ex, .finite sy my ey =>
    let e := min ex ey
    let sum := signedMant sx (mx * 2 ^ (ex - e).toNat) + signedMant sy (my * 2 ^ (ey - e).toNat)
    f.round env (sumSign env.rd sx sy sum) sum.natAbs e false
  | .inf sx, .inf sy => if sx = sy then .ok (f.signBits sx + f.infBits) else .invalid
  | .inf sx, .finite _ _ _ => .ok (f.signBits sx + f.infBits)
  | .finite _ _ _, .inf sy => .ok (f.signBits sy + f.infBits)
  | x, y => nanResult f x y

/-- FADD (49 R433). -/
def fpAdd (f : Format) (env : FpEnv) (x y : Nat) : FpResult := f.addVal env (f.unpack x) (f.unpack y)

/-- FSUB (49 R436): rs1 minus rs2. -/
def fpSub (f : Format) (env : FpEnv) (x y : Nat) : FpResult := f.addVal env (f.unpack x) (f.unpack y).neg

/-- The product of two values of format `src`, rounded to `dst` (49 R439, R442). A NaN operand is returned where the
formats are one, else the result is some quiet NaN. -/
def fpMul (src dst : Format) (env : FpEnv) (x y : Nat) : FpResult :=
  match src.unpack x, src.unpack y with
  | .finite sx mx ex, .finite sy my ey => dst.round env (sx ^^ sy) (mx * my) (ex + ey) false
  | .inf sx, .inf sy => .ok (dst.signBits (sx ^^ sy) + dst.infBits)
  | .inf sx, .finite sy my _ => if my = 0 then .invalid else .ok (dst.signBits (sx ^^ sy) + dst.infBits)
  | .finite sx mx _, .inf sy => if mx = 0 then .invalid else .ok (dst.signBits (sx ^^ sy) + dst.infBits)
  | a, b => if src = dst then nanResult src a b else { nanResult src a b with bits := .convertedNan }

/-- FDIV (49 R444): DZ for a finite nonzero dividend and a zero divisor. -/
def fpDiv (f : Format) (env : FpEnv) (x y : Nat) : FpResult :=
  match f.unpack x, f.unpack y with
  | .finite sx mx ex, .finite sy my ey =>
    if my = 0 then
      if mx = 0 then .invalid
      else { bits := .exact (f.signBits (sx ^^ sy) + f.infBits), exc := excDZ, tiny := false }
    else
      let k := f.fbits + 4 + Nat.log2 my
      let n := mx * 2 ^ k
      f.round env (sx ^^ sy) (n / my) (ex - ey - (k : Int)) (n % my != 0)
  | .inf _, .inf _ => .invalid
  | .inf sx, .finite sy _ _ => .ok (f.signBits (sx ^^ sy) + f.infBits)
  | .finite sx _ _, .inf sy => .ok (f.signBits (sx ^^ sy))
  | a, b => nanResult f a b

/-- The integer square root by bits: the largest r + k with k below 2^i whose square is at most n. -/
def isqrtBits (n : Nat) : Nat → Nat → Nat
  | 0, r => r
  | i + 1, r => isqrtBits n i (if (r + 2 ^ i) * (r + 2 ^ i) ≤ n then r + 2 ^ i else r)

/-- The integer square root. -/
def isqrt (n : Nat) : Nat := isqrtBits n (Nat.log2 n / 2 + 1) 0

/-- FSQRT (49 R430). -/
def fpSqrt (f : Format) (env : FpEnv) (x : Nat) : FpResult :=
  match f.unpack x with
  | .finite sign m e =>
    if m = 0 then .ok (f.signBits sign)
    else if sign then .invalid
    else
      let k := 2 * (f.fbits + 4) + (e % 2).toNat
      let n := m * 2 ^ k
      let r := isqrt n
      f.round env false r ((e - (k : Int)) / 2) (r * r != n)
  | .inf sign => if sign then .invalid else .ok f.infBits
  | .nan sig b => { bits := .operandNan (f.quiet b), exc := if sig then excNV else 0, tiny := false }

/-- A conversion between formats (49 R421 to R426). -/
def fpConvert (src dst : Format) (env : FpEnv) (x : Nat) : FpResult :=
  match src.unpack x with
  | .finite sign m e => dst.round env sign m e false
  | .inf sign => .ok (dst.signBits sign + dst.infBits)
  | .nan sig _ => { bits := .convertedNan, exc := if sig then excNV else 0, tiny := false }

/-- A conversion of a 32-bit integer (49 R415 to R417). -/
def fpFromInt (dst : Format) (env : FpEnv) (w : Word) : FpResult :=
  dst.round env (decide (w.toInt < 0)) w.toInt.natAbs 0 false

/-- A conversion to a 32-bit integer, rounded toward zero (49 R418 to R420). -/
def fpToInt (src : Format) (x : Nat) : FpResult :=
  match src.unpack x with
  | .finite sign m e =>
    let q := m * 2 ^ e.toNat / 2 ^ (-e).toNat
    let t := signedMant sign q
    if t < -2147483648 ∨ 2147483647 < t then { bits := .invalidInteger (some sign), exc := excNV, tiny := false }
    else
      { bits := .exact (BitVec.ofInt 32 t).toNat
        exc := if m * 2 ^ e.toNat % 2 ^ (-e).toNat = 0 then 0 else excNX
        tiny := false }
  | .inf sign => { bits := .invalidInteger (some sign), exc := excNV, tiny := false }
  | .nan _ _ => { bits := .invalidInteger none, exc := excNV, tiny := false }

/-- The relation of two finite values: 0 equal, 1 less, 2 greater (49 R447). -/
def relFinite (sx : Bool) (mx : Nat) (ex : Int) (sy : Bool) (my : Nat) (ey : Int) : BitVec 2 :=
  let e := min ex ey
  let a := signedMant sx (mx * 2 ^ (ex - e).toNat)
  let b := signedMant sy (my * 2 ^ (ey - e).toNat)
  if a = b then 0 else if a < b then 1 else 2

/-- The relation of two values (49 R447): 3 when unordered. -/
def fpRelation (x y : FpVal) : BitVec 2 :=
  match x, y with
  | .nan _ _, _ => 3
  | _, .nan _ _ => 3
  | .finite sx mx ex, .finite sy my ey => relFinite sx mx ex sy my ey
  | .inf sx, .inf sy => if sx = sy then 0 else if sx then 1 else 2
  | .inf sx, .finite _ _ _ => if sx then 1 else 2
  | .finite _ _ _, .inf sy => if sy then 2 else 1

/-- Whether a value makes a compare invalid (49 R447). -/
def signals (signalOnQuiet : Bool) : FpVal → Bool
  | .nan sig _ => sig || signalOnQuiet
  | .finite _ _ _ => false
  | .inf _ => false

/-- The relation and the exceptions of a compare (49 R447). -/
def fpCompare (f : Format) (signalOnQuiet : Bool) (x y : Nat) : BitVec 2 × BitVec 5 :=
  (fpRelation (f.unpack x) (f.unpack y),
    if signals signalOnQuiet (f.unpack x) || signals signalOnQuiet (f.unpack y) then excNV else 0)

end Sys2Proof.Machine
end

