-- ==== Sys2Proof/Machine/FloatOps.lean ====
section
/-! DEFINITION. The floating-point operate instructions (49_fpop_cpop R410 to R454). -/

namespace Sys2Proof.Machine

/-- Whether every register operand is aligned for its precision (R411). -/
def regsAligned (regs : List (Prec × RegNum)) : Bool := regs.all (fun r => r.1.alignedReg r.2)

/-- The part of `fpop_checks` (R410) that comes before the operation is looked at: fp_disabled, a deferred trap, and
sequence_error while the queue is not empty (60 R478). That this ftt 4 comes before the ftt 3 of an unassigned or unimplemented
FPop and the ftt 6 of a misaligned register, which R410, 60 R474 and R478 do not order, is the model's choice (log 17). -/
def fpopReady (k : State → Out) (s : State) : Out :=
  if !s.fpEnabled then s.raise .fpDisabled
  else
    match s.deferredTrap with
    | some t => s.takeDeferred t
    | none => if s.qne then s.raiseFp 4 else k s

/-- `fpop_checks` (R410), the register check last (R411). -/
def fpopChecks (regs : List (Prec × RegNum)) (k : State → Out) (s : State) : Out :=
  fpopReady (fun t => if t.cfg.fregAlignTraps && !regsAligned regs then t.raiseFp 6 else k t) s

/-- An FPop that is unassigned or not implemented (R410, R454): unimplemented_FPop. -/
def fpopUnimplemented (s : State) : Out := fpopReady (fun t => t.raiseFp 3) s

/-- `trapped_bits` (R412). -/
def trappedBits (exc tem : BitVec 5) : BitVec 5 :=
  if exc &&& tem &&& excOF ≠ 0 then excOF else if exc &&& tem &&& excUF ≠ 0 then excUF else exc

/-- Raising fp_exception with ftt = 1, IEEE_754_exception (R412). -/
def State.raiseIeee (exc : BitVec 5) (s : State) : Out :=
  .next (if s.seenEt then
      { s with fsr := { s.fsr with ftt := 1, cexc := trappedBits exc s.fsr.tem } }.trapEntry Trap.fpException.tt
    else s.errorHalt .fpException)

/-- The same on an FPU with a queue (60 R476(a); log 17): the trap is deferred, the instruction goes to the queue, which
holds it alone: the depth 10_state R45 leaves open is one, because an FPop met by a queue with an entry does not enter it. -/
def State.deferIeee (exc : BitVec 5) (s : State) : State :=
  { s with
    fsr := { s.fsr with cexc := trappedBits exc s.fsr.tem }
    fpPending := some 1
    fq := s.fq ++ [(s.draw .fqEntry).setWidth 64] }.advance

/-- The FSR of an FPop that completes (R412). -/
def Fsr.complete (exc : BitVec 5) (r : Fsr) : Fsr := { r with cexc := exc, aexc := r.aexc ||| exc, ftt := 0 }

/-- An FPop that completes: the FSR, the result, advance (R412). -/
def State.completeFpop (exc : BitVec 5) (write : State → State) (s : State) : State :=
  (write { s with fsr := s.fsr.complete exc }).advance

/-- `fp_complete` (R412); `last` marks what the instruction leaves behind once it has retired. -/
def fpComplete (exc : BitVec 5) (write last : State → State) (s : State) : Out :=
  if exc &&& s.fsr.tem = 0 then .next (last (s.completeFpop exc write))
  else if s.cfg.fqPresent then .next (last (s.deferIeee exc))
  else s.raiseIeee exc

/-- What rounding depends on (R412, R413). -/
def State.fpEnv (s : State) : FpEnv := { rd := s.fsr.rd, ufm := s.fsr.tem.getLsbD 2, tininess := s.cfg.tininess }

/-- An open floating-point result. -/
def State.drawFp (s : State) : Nat := (s.draw .fpResult).toNat

/-- The bits of a result, where FP_NUMERICS settles them or leaves them free (R412; logs 21 and 24). -/
def State.resolve (s : State) (f : Format) (b : FpBits) : Nat :=
  match b, s.cfg.nanPolicy with
  | .exact n, _ => n
  | .generatedNan, .suggested => f.defaultNan
  | .operandNan n, .suggested => n
  | .invalidInteger (some true), .suggested => 0x80000000
  | .invalidInteger (some false), .suggested => 0x7FFFFFFF
  | .invalidInteger _, _ => s.drawFp
  | .generatedNan, .unconstrained => f.toNan s.drawFp
  | .operandNan _, .unconstrained => f.toNan s.drawFp
  | .convertedNan, _ => f.toNan s.drawFp

/-- A result under FSR.NS = 1 that involves a denormalized number: any value, any exceptions (R412; log 23). -/
def State.nsResult (s : State) (denormal : Bool) (r : FpResult) : FpResult :=
  if s.fsr.ns && (denormal || r.tiny) then
    { bits := .exact s.drawFp, exc := (s.draw .fpExceptions).setWidth 5, tiny := r.tiny }
  else r

/-- Ending an FPop1 with a result for the registers of rd. -/
def fpResult (dst : Prec) (rd : RegNum) (r : FpResult) (s : State) : Out :=
  fpComplete r.exc (State.writeFp dst rd (s.resolve dst.format r.bits)) id s

/-- An FPop1 of one floating-point operand. -/
def fpUnary (src dst : Prec) (op : FpEnv → Nat → FpResult) (rd rs2 : RegNum) (s : State) : Out :=
  fpopChecks [(src, rs2), (dst, rd)]
    (fun t => fpResult dst rd (t.nsResult (src.format.denormal (t.readFp src rs2)) (op t.fpEnv (t.readFp src rs2))) t) s

/-- An FPop1 of two floating-point operands. -/
def fpBinary (src dst : Prec) (op : FpEnv → Nat → Nat → FpResult) (rd rs1 rs2 : RegNum) (s : State) : Out :=
  fpopChecks [(src, rs1), (src, rs2), (dst, rd)]
    (fun t =>
      fpResult dst rd
        (t.nsResult (src.format.denormal (t.readFp src rs1) || src.format.denormal (t.readFp src rs2))
          (op t.fpEnv (t.readFp src rs1) (t.readFp src rs2))) t) s

/-- A conversion of the integer in f[rs2] (R415 to R417). -/
def fpConvertInt (dst : Prec) (rd rs2 : RegNum) (s : State) : Out :=
  fpopChecks [(.single, rs2), (dst, rd)] (fun t => fpResult dst rd (fpFromInt dst.format t.fpEnv (t.readF rs2)) t) s

/-- FMOVs, FNEGs, FABSs: 32 bits, no exception (R427 to R429). -/
def fpMove (f : Word → Word) (rd rs2 : RegNum) (s : State) : Out :=
  fpopChecks [] (fun t => fpComplete 0 (State.writeF rd (f (t.readF rs2))) id t) s

/-- Marks that the instruction executed last was an FPop2 (70 R527). -/
def State.markFpop2 (s : State) : State := { s with afterFpop2 := true }

/-- FSR.fcc written (R447). -/
def State.writeFcc (rel : BitVec 2) (s : State) : State := { s with fsr := { s.fsr with fcc := rel } }

/-- The relation and exceptions of a compare, any where NS = 1 and an operand is denormalized (log 23). -/
def State.compareResult (s : State) (p : Prec) (signalOnQuiet : Bool) (rs1 rs2 : RegNum) : BitVec 2 × BitVec 5 :=
  if s.fsr.ns && (p.format.denormal (s.readFp p rs1) || p.format.denormal (s.readFp p rs2)) then
    ((s.draw .fpResult).setWidth 2, (s.draw .fpExceptions).setWidth 5)
  else fpCompare p.format signalOnQuiet (s.readFp p rs1) (s.readFp p rs2)

/-- `fcmp` (R447). -/
def fpCompareInstr (p : Prec) (signalOnQuiet : Bool) (rs1 rs2 : RegNum) (s : State) : Out :=
  fpopChecks [(p, rs1), (p, rs2)]
    (fun t =>
      fpComplete (t.compareResult p signalOnQuiet rs1 rs2).2
        (State.writeFcc (t.compareResult p signalOnQuiet rs1 rs2).1) State.markFpop2 t) s

/-- FiTOs: convert integer to single (R415). -/
def execFitos (rd rs2 : RegNum) (s : State) : Out :=
  fpConvertInt .single rd rs2 s

/-- FiTOd: convert integer to double (R416). -/
def execFitod (rd rs2 : RegNum) (s : State) : Out :=
  fpConvertInt .double rd rs2 s

/-- FiTOq: convert integer to quad (R417). -/
def execFitoq (rd rs2 : RegNum) (s : State) : Out :=
  fpConvertInt .quad rd rs2 s

/-- FsTOi: convert single to integer, toward zero (R418). -/
def execFstoi (rd rs2 : RegNum) (s : State) : Out :=
  fpUnary .single .single (fun _ x => fpToInt (Prec.format .single) x) rd rs2 s

/-- FdTOi: convert double to integer, toward zero (R419). -/
def execFdtoi (rd rs2 : RegNum) (s : State) : Out :=
  fpUnary .double .single (fun _ x => fpToInt (Prec.format .double) x) rd rs2 s

/-- FqTOi: convert quad to integer, toward zero (R420). -/
def execFqtoi (rd rs2 : RegNum) (s : State) : Out :=
  fpUnary .quad .single (fun _ x => fpToInt (Prec.format .quad) x) rd rs2 s

/-- FsTOd: convert single to double (R421). -/
def execFstod (rd rs2 : RegNum) (s : State) : Out :=
  fpUnary .single .double (fpConvert (Prec.format .single) (Prec.format .double)) rd rs2 s

/-- FsTOq: convert single to quad (R422). -/
def execFstoq (rd rs2 : RegNum) (s : State) : Out :=
  fpUnary .single .quad (fpConvert (Prec.format .single) (Prec.format .quad)) rd rs2 s

/-- FdTOs: convert double to single (R423). -/
def execFdtos (rd rs2 : RegNum) (s : State) : Out :=
  fpUnary .double .single (fpConvert (Prec.format .double) (Prec.format .single)) rd rs2 s

/-- FdTOq: convert double to quad (R424). -/
def execFdtoq (rd rs2 : RegNum) (s : State) : Out :=
  fpUnary .double .quad (fpConvert (Prec.format .double) (Prec.format .quad)) rd rs2 s

/-- FqTOs: convert quad to single (R425). -/
def execFqtos (rd rs2 : RegNum) (s : State) : Out :=
  fpUnary .quad .single (fpConvert (Prec.format .quad) (Prec.format .single)) rd rs2 s

/-- FqTOd: convert quad to double (R426). -/
def execFqtod (rd rs2 : RegNum) (s : State) : Out :=
  fpUnary .quad .double (fpConvert (Prec.format .quad) (Prec.format .double)) rd rs2 s

/-- FMOVs: move (R427). -/
def execFmovs (rd rs2 : RegNum) (s : State) : Out :=
  fpMove id rd rs2 s

/-- FNEGs: negate: the sign bit complemented (R428). -/
def execFnegs (rd rs2 : RegNum) (s : State) : Out :=
  fpMove (fun v => v ^^^ 0x80000000) rd rs2 s

/-- FABSs: absolute value: the sign bit cleared (R429). -/
def execFabss (rd rs2 : RegNum) (s : State) : Out :=
  fpMove (fun v => v &&& 0x7FFFFFFF) rd rs2 s

/-- FSQRTs: square root single (R430). -/
def execFsqrts (rd rs2 : RegNum) (s : State) : Out :=
  fpUnary .single .single (fpSqrt (Prec.format .single)) rd rs2 s

/-- FSQRTd: square root double (R431). -/
def execFsqrtd (rd rs2 : RegNum) (s : State) : Out :=
  fpUnary .double .double (fpSqrt (Prec.format .double)) rd rs2 s

/-- FSQRTq: square root quad (R432). -/
def execFsqrtq (rd rs2 : RegNum) (s : State) : Out :=
  fpUnary .quad .quad (fpSqrt (Prec.format .quad)) rd rs2 s

/-- FADDs: add single (R433). -/
def execFadds (rd rs1 rs2 : RegNum) (s : State) : Out :=
  fpBinary .single .single (fpAdd (Prec.format .single)) rd rs1 rs2 s

/-- FADDd: add double (R434). -/
def execFaddd (rd rs1 rs2 : RegNum) (s : State) : Out :=
  fpBinary .double .double (fpAdd (Prec.format .double)) rd rs1 rs2 s

/-- FADDq: add quad (R435). -/
def execFaddq (rd rs1 rs2 : RegNum) (s : State) : Out :=
  fpBinary .quad .quad (fpAdd (Prec.format .quad)) rd rs1 rs2 s

/-- FSUBs: subtract single (R436). -/
def execFsubs (rd rs1 rs2 : RegNum) (s : State) : Out :=
  fpBinary .single .single (fpSub (Prec.format .single)) rd rs1 rs2 s

/-- FSUBd: subtract double (R437). -/
def execFsubd (rd rs1 rs2 : RegNum) (s : State) : Out :=
  fpBinary .double .double (fpSub (Prec.format .double)) rd rs1 rs2 s

/-- FSUBq: subtract quad (R438). -/
def execFsubq (rd rs1 rs2 : RegNum) (s : State) : Out :=
  fpBinary .quad .quad (fpSub (Prec.format .quad)) rd rs1 rs2 s

/-- FMULs: multiply single (R439). -/
def execFmuls (rd rs1 rs2 : RegNum) (s : State) : Out :=
  fpBinary .single .single (fpMul (Prec.format .single) (Prec.format .single)) rd rs1 rs2 s

/-- FMULd: multiply double (R440). -/
def execFmuld (rd rs1 rs2 : RegNum) (s : State) : Out :=
  fpBinary .double .double (fpMul (Prec.format .double) (Prec.format .double)) rd rs1 rs2 s

/-- FMULq: multiply quad (R441). -/
def execFmulq (rd rs1 rs2 : RegNum) (s : State) : Out :=
  fpBinary .quad .quad (fpMul (Prec.format .quad) (Prec.format .quad)) rd rs1 rs2 s

/-- FsMULd: exact product of singles (R442). -/
def execFsmuld (rd rs1 rs2 : RegNum) (s : State) : Out :=
  fpBinary .single .double (fpMul (Prec.format .single) (Prec.format .double)) rd rs1 rs2 s

/-- FdMULq: exact product of doubles (R443). -/
def execFdmulq (rd rs1 rs2 : RegNum) (s : State) : Out :=
  fpBinary .double .quad (fpMul (Prec.format .double) (Prec.format .quad)) rd rs1 rs2 s

/-- FDIVs: divide single (R444). -/
def execFdivs (rd rs1 rs2 : RegNum) (s : State) : Out :=
  fpBinary .single .single (fpDiv (Prec.format .single)) rd rs1 rs2 s

/-- FDIVd: divide double (R445). -/
def execFdivd (rd rs1 rs2 : RegNum) (s : State) : Out :=
  fpBinary .double .double (fpDiv (Prec.format .double)) rd rs1 rs2 s

/-- FDIVq: divide quad (R446). -/
def execFdivq (rd rs1 rs2 : RegNum) (s : State) : Out :=
  fpBinary .quad .quad (fpDiv (Prec.format .quad)) rd rs1 rs2 s

/-- FCMPs: compare single (R448). -/
def execFcmps (rs1 rs2 : RegNum) (s : State) : Out :=
  fpCompareInstr .single false rs1 rs2 s

/-- FCMPd: compare double (R449). -/
def execFcmpd (rs1 rs2 : RegNum) (s : State) : Out :=
  fpCompareInstr .double false rs1 rs2 s

/-- FCMPq: compare quad (R450). -/
def execFcmpq (rs1 rs2 : RegNum) (s : State) : Out :=
  fpCompareInstr .quad false rs1 rs2 s

/-- FCMPEs: compare single, invalid if unordered (R451). -/
def execFcmpes (rs1 rs2 : RegNum) (s : State) : Out :=
  fpCompareInstr .single true rs1 rs2 s

/-- FCMPEd: compare double, invalid if unordered (R452). -/
def execFcmped (rs1 rs2 : RegNum) (s : State) : Out :=
  fpCompareInstr .double true rs1 rs2 s

/-- FCMPEq: compare quad, invalid if unordered (R453). -/
def execFcmpeq (rs1 rs2 : RegNum) (s : State) : Out :=
  fpCompareInstr .quad true rs1 rs2 s

end Sys2Proof.Machine
end

