-- ==== Sys2Proof/Machine/Load.lean ====
section
/-! DEFINITION. The load instructions: integer (40 R140 to R152), floating-point (R153 to R156), coprocessor (R157 to R160). -/

namespace Sys2Proof.Machine

/-- LDSB: load signed byte (R141). -/
def execLdsb (rd rs1 : RegNum) (operand : Operand2) (s : State) : Out :=
  ordinary false rd rs1 operand (loadInteger 1 Memory.read1 sext rd) s

/-- LDSH: load signed halfword (R142). -/
def execLdsh (rd rs1 : RegNum) (operand : Operand2) (s : State) : Out :=
  ordinary false rd rs1 operand (loadInteger 2 Memory.read2 sext rd) s

/-- LDUB: load unsigned byte (R143). -/
def execLdub (rd rs1 : RegNum) (operand : Operand2) (s : State) : Out :=
  ordinary false rd rs1 operand (loadInteger 1 Memory.read1 zext rd) s

/-- LDUH: load unsigned halfword (R144). -/
def execLduh (rd rs1 : RegNum) (operand : Operand2) (s : State) : Out :=
  ordinary false rd rs1 operand (loadInteger 2 Memory.read2 zext rd) s

/-- LD: load word (R145). -/
def execLd (rd rs1 : RegNum) (operand : Operand2) (s : State) : Out :=
  ordinary false rd rs1 operand (loadInteger 4 Memory.read4 id rd) s

/-- LDD: load doubleword into a register pair (R146). -/
def execLdd (rd rs1 : RegNum) (operand : Operand2) (s : State) : Out :=
  ordinary true rd rs1 operand (loadDouble rd) s

/-- LDSBA: load signed byte from an alternate space (R147). -/
def execLdsba (rd rs1 : RegNum) (operand : AltOperand) (s : State) : Out :=
  alternate false rd rs1 operand (loadInteger 1 Memory.read1 sext rd) s

/-- LDSHA: load signed halfword from an alternate space (R148). -/
def execLdsha (rd rs1 : RegNum) (operand : AltOperand) (s : State) : Out :=
  alternate false rd rs1 operand (loadInteger 2 Memory.read2 sext rd) s

/-- LDUBA: load unsigned byte from an alternate space (R149). -/
def execLduba (rd rs1 : RegNum) (operand : AltOperand) (s : State) : Out :=
  alternate false rd rs1 operand (loadInteger 1 Memory.read1 zext rd) s

/-- LDUHA: load unsigned halfword from an alternate space (R150). -/
def execLduha (rd rs1 : RegNum) (operand : AltOperand) (s : State) : Out :=
  alternate false rd rs1 operand (loadInteger 2 Memory.read2 zext rd) s

/-- LDA: load word from an alternate space (R151). -/
def execLda (rd rs1 : RegNum) (operand : AltOperand) (s : State) : Out :=
  alternate false rd rs1 operand (loadInteger 4 Memory.read4 id rd) s

/-- LDDA: load doubleword into a register pair from an alternate space (R152). -/
def execLdda (rd rs1 : RegNum) (operand : AltOperand) (s : State) : Out :=
  alternate true rd rs1 operand (loadDouble rd) s

/-- f[rd] after a load that took a data access trap: any value (20 R90(b)). -/
def spoilF (rd : RegNum) (s : State) : State := s.writeF rd (s.drawWord .loadDest)

/-- fd[rd] after such a load: any value. -/
def spoilFd (rd : RegNum) (s : State) : State := s.writeFd rd (s.drawWord .loadDest ++ s.drawWord .loadDest2)

/-- Coprocessor register rd after such a load: any value (D26, I3; log 14). -/
def spoilC (rd : RegNum) (s : State) : State := s.writeC rd (s.drawWord .loadDest)

/-- Both registers of a coprocessor pair after such a load: any values (20 R90(c), D26; log 14), of an odd rd those of its pair
(the model's choice, log 19). -/
def spoilCPair (rd : RegNum) (s : State) : State :=
  (s.writeC (evenReg rd) (s.drawWord .loadDest)).writeC (oddReg rd) (s.drawWord .loadDest2)

/-- The FSR loaded, ftt, ver and qne kept (10_state R41). -/
def State.loadFsr (v : Word) (s : State) : State := { s with fsr := s.fsr.load v }

/-- Coprocessor register rd loaded (R158), the rest of the coprocessor being as CP_SEMANTICS has it (R157; log 19). -/
def State.loadC (rd : RegNum) (v : Word) (s : State) : State := (s.cpMove (.ldc rd v)).writeC rd v

/-- The Coprocessor State Register loaded (R160), the rest of the coprocessor being as CP_SEMANTICS has it (R157; log 19). -/
def State.loadCsr (v : Word) (s : State) : State := (s.cpMove (.ldcsr v)).writeCsr v

/-- The writable fields of the FSR after an LDFSR that took a data access trap: any values (I3; log 14). -/
def spoilFsr (s : State) : State := s.loadFsr (s.drawWord .loadDest)

/-- CSR after an LDCSR that took a data access trap: any value (I3; log 14). -/
def spoilCsr (s : State) : State := s.writeCsr (s.drawWord .loadDest)

/-- A coprocessor register pair loaded: which register takes which word is the coprocessor's, as is all that an odd rd does
(R159), and so is the rest of the coprocessor (R157; log 19). -/
def State.loadCPair (rd : RegNum) (v : Dword) (s : State) : State :=
  if rd.getLsbD 0 then s.cpMove (.lddc rd v)
  else ((s.cpMove (.lddc rd v)).writeC rd (Config.cpLoadPair rd v).1).writeC (oddReg rd) (Config.cpLoadPair rd v).2

/-- The window of three instructions an LDFSR opens (70 R528). -/
def State.openLdfsrWindow (s : State) : State := { s with ldfsrLeft := 3 }

/-- The access of LDFSR: a load that opens the LDFSR window when it has retired. -/
def loadFsrAt (asi : Asi) (ea : Word) (s : State) : Out :=
  readAt .read 4 Memory.read4 spoilFsr asi ea (fun _ v t => .next (t.loadFsr v).advance.openLdfsrWindow) s

/-- LDF: load a word into f[rd] (R154). -/
def execLdf (rd rs1 : RegNum) (operand : Operand2) (s : State) : Out :=
  fpAccess false true false 4 rd rs1 operand (loadAt 4 Memory.read4 (State.writeF rd) (spoilF rd)) s

/-- LDDF: load a doubleword into fd[rd] (R155). -/
def execLddf (rd rs1 : RegNum) (operand : Operand2) (s : State) : Out :=
  fpAccess false true true 8 rd rs1 operand (loadAt 8 Memory.read8 (State.writeFd rd) (spoilFd rd)) s

/-- LDFSR: load the FSR; the rd field is ignored (I20) (R156). -/
def execLdfsr (rd rs1 : RegNum) (operand : Operand2) (s : State) : Out :=
  fpAccess false true false 4 rd rs1 operand loadFsrAt s

/-- LDC: load a word into coprocessor register rd (R158). -/
def execLdc (rd rs1 : RegNum) (operand : Operand2) (s : State) : Out :=
  cpAccess false 4 rs1 operand (loadAt 4 Memory.read4 (State.loadC rd) (spoilC rd)) s

/-- LDDC: load a doubleword into a coprocessor register pair (R159). -/
def execLddc (rd rs1 : RegNum) (operand : Operand2) (s : State) : Out :=
  cpAccess false 8 rs1 operand (loadAt 8 Memory.read8 (State.loadCPair rd) (spoilCPair rd)) s

/-- LDCSR: load the Coprocessor State Register; the rd field is ignored (I20) (R160). -/
def execLdcsr (_rd rs1 : RegNum) (operand : Operand2) (s : State) : Out :=
  cpAccess false 4 rs1 operand (loadAt 4 Memory.read4 State.loadCsr spoilCsr) s

end Sys2Proof.Machine
end

