-- ==== Sys2Proof/Machine/Logical.lean ====
section
/-! DEFINITION. SETHI, NOP, the logical instructions and the shifts (43_sethi_logical_shift). -/

namespace Sys2Proof.Machine

/-- A result written to r[rd] (R212). -/
def logical (f : Word → Word → Word) (rd rs1 : RegNum) (operand : Operand2) (s : State) : Out :=
  .next (s.writeR rd (f (s.readR rs1) (s.op2val operand))).advance

/-- A result written to r[rd], and its condition codes (R212). -/
def logicalCc (f : Word → Word → Word) (rd rs1 : RegNum) (operand : Operand2) (s : State) : Out :=
  let res := f (s.readR rs1) (s.op2val operand)
  .next ((s.writeR rd res).writeIcc (logicIcc res)).advance

/-- A shift by the count of R225. -/
def shift (f : Word → Nat → Word) (rd rs1 : RegNum) (count : ShiftCount) (s : State) : Out :=
  .next (s.writeR rd (f (s.readR rs1) (s.shiftCount count))).advance

/-- SETHI: imm22 into the high 22 bits of r[rd], the low 10 bits zero (R210). -/
def execSethi (rd : RegNum) (imm22 : BitVec 22) (s : State) : Out :=
  .next (s.writeR rd (imm22 ++ 0#10)).advance

/-- NOP: no operation (R211). -/
def execNop (s : State) : Out :=
  .next s.advance

/-- AND: and (R213). -/
def execAnd (rd rs1 : RegNum) (operand : Operand2) (s : State) : Out :=
  logical (fun a b => a &&& b) rd rs1 operand s

/-- ANDcc: and and modify icc (R214). -/
def execAndcc (rd rs1 : RegNum) (operand : Operand2) (s : State) : Out :=
  logicalCc (fun a b => a &&& b) rd rs1 operand s

/-- ANDN: and not (R215). -/
def execAndn (rd rs1 : RegNum) (operand : Operand2) (s : State) : Out :=
  logical (fun a b => a &&& ~~~b) rd rs1 operand s

/-- ANDNcc: and not and modify icc (R216). -/
def execAndncc (rd rs1 : RegNum) (operand : Operand2) (s : State) : Out :=
  logicalCc (fun a b => a &&& ~~~b) rd rs1 operand s

/-- OR: inclusive or (R217). -/
def execOr (rd rs1 : RegNum) (operand : Operand2) (s : State) : Out :=
  logical (fun a b => a ||| b) rd rs1 operand s

/-- ORcc: inclusive or and modify icc (R218). -/
def execOrcc (rd rs1 : RegNum) (operand : Operand2) (s : State) : Out :=
  logicalCc (fun a b => a ||| b) rd rs1 operand s

/-- ORN: inclusive or not (R219). -/
def execOrn (rd rs1 : RegNum) (operand : Operand2) (s : State) : Out :=
  logical (fun a b => a ||| ~~~b) rd rs1 operand s

/-- ORNcc: inclusive or not and modify icc (R220). -/
def execOrncc (rd rs1 : RegNum) (operand : Operand2) (s : State) : Out :=
  logicalCc (fun a b => a ||| ~~~b) rd rs1 operand s

/-- XOR: exclusive or (R221). -/
def execXor (rd rs1 : RegNum) (operand : Operand2) (s : State) : Out :=
  logical (fun a b => a ^^^ b) rd rs1 operand s

/-- XORcc: exclusive or and modify icc (R222). -/
def execXorcc (rd rs1 : RegNum) (operand : Operand2) (s : State) : Out :=
  logicalCc (fun a b => a ^^^ b) rd rs1 operand s

/-- XNOR: exclusive nor (R223). -/
def execXnor (rd rs1 : RegNum) (operand : Operand2) (s : State) : Out :=
  logical (fun a b => ~~~(a ^^^ b)) rd rs1 operand s

/-- XNORcc: exclusive nor and modify icc (R224). -/
def execXnorcc (rd rs1 : RegNum) (operand : Operand2) (s : State) : Out :=
  logicalCc (fun a b => ~~~(a ^^^ b)) rd rs1 operand s

/-- SLL: shift left logical (R226). -/
def execSll (rd rs1 : RegNum) (count : ShiftCount) (s : State) : Out :=
  shift (fun a n => a <<< n) rd rs1 count s

/-- SRL: shift right logical (R227). -/
def execSrl (rd rs1 : RegNum) (count : ShiftCount) (s : State) : Out :=
  shift (fun a n => a >>> n) rd rs1 count s

/-- SRA: shift right arithmetic (R228). -/
def execSra (rd rs1 : RegNum) (count : ShiftCount) (s : State) : Out :=
  shift (fun a n => a.sshiftRight n) rd rs1 count s

end Sys2Proof.Machine
end

