-- ==== Sys2Proof/Machine/MulDiv.lean ====
section
/-! DEFINITION. Multiply step, multiply and divide (45_mul_div). -/

namespace Sys2Proof.Machine

/-- The unsigned 64-bit product (R263). -/
def umulProduct (a b : Word) : Dword := a.setWidth 64 * b.setWidth 64

/-- The signed 64-bit product (R264). -/
def smulProduct (a b : Word) : Dword := a.signExtend 64 * b.signExtend 64

/-- The high word of a product, for Y (R262). -/
def highWord (p : Dword) : Word := p.extractLsb' 32 32

/-- The low word of a product, for r[rd] (R262). -/
def lowWord (p : Dword) : Word := p.extractLsb' 0 32

/-- A product written to Y and r[rd] (R262). -/
def multiply (product : Word → Word → Dword) (rd rs1 : RegNum) (operand : Operand2) (s : State) : Out :=
  let p := product (s.readR rs1) (s.op2val operand)
  .next ((s.writeR rd (lowWord p)).writeY (highWord p)).advance

/-- A product written to Y and r[rd], and its condition codes (R262). -/
def multiplyCc (product : Word → Word → Dword) (rd rs1 : RegNum) (operand : Operand2) (s : State) : Out :=
  let p := product (s.readR rs1) (s.op2val operand)
  .next (((s.writeR rd (lowWord p)).writeY (highWord p)).writeIcc (mulIcc (lowWord p))).advance

/-- Whether an unsigned division overflows (R267): q > 2^32 - 1. -/
def udivOverflow (dividend : Dword) (b : Word) : Bool := decide (4294967295 < dividend.toNat / b.toNat)

/-- The quotient UDIV writes (R268). -/
def udivQuotient (dividend : Dword) (b : Word) : Word :=
  if udivOverflow dividend b then 0xFFFFFFFF else BitVec.ofNat 32 (dividend.toNat / b.toNat)

/-- The exact signed quotient, truncated toward zero (R267). -/
def sdivExact (dividend : Dword) (b : Word) : Int := Int.tdiv dividend.toInt b.toInt

/-- The remainder, with the sign of the dividend (R267). -/
def sdivRemainder (dividend : Dword) (b : Word) : Int := Int.tmod dividend.toInt b.toInt

/-- A signed division whose positive result overflows (R267). -/
def sdivPositiveOverflow (dividend : Dword) (b : Word) : Bool := decide (2147483647 < sdivExact dividend b)

/-- A signed division whose negative result overflows, by method A or B (R267, SDIV_NEG_OVF). -/
def sdivNegativeOverflow (method : SdivMethod) (dividend : Dword) (b : Word) : Bool :=
  decide (sdivExact dividend b < -2147483648) ||
    (method == .b && decide (sdivExact dividend b = -2147483648) && decide (sdivRemainder dividend b ≠ 0))

/-- Whether a signed division overflows. -/
def sdivOverflow (method : SdivMethod) (dividend : Dword) (b : Word) : Bool :=
  sdivPositiveOverflow dividend b || sdivNegativeOverflow method dividend b

/-- The quotient SDIV writes (R269). -/
def sdivQuotient (method : SdivMethod) (dividend : Dword) (b : Word) : Word :=
  if sdivPositiveOverflow dividend b then 0x7FFFFFFF
  else if sdivNegativeOverflow method dividend b then 0x80000000
  else BitVec.ofInt 32 (sdivExact dividend b)

/-- `divide_common` (R267): the dividend Y :: r[rs1], division_by_zero, the quotient into r[rd], Y any value afterwards
(70 R533; log 13). -/
def divide (quotient : Dword → Word → Word) (rd rs1 : RegNum) (operand : Operand2) (s : State) : Out :=
  let b := s.op2val operand
  let dividend := s.seenY ++ s.readR rs1
  if b = 0 then s.raise .divisionByZero
  else .next ((s.writeR rd (quotient dividend b)).writeY (s.drawWord .divideY)).advance

/-- The same, and the condition codes of the quotient (R270, R271). -/
def divideCc (quotient : Dword → Word → Word) (overflow : Dword → Word → Bool) (rd rs1 : RegNum) (operand : Operand2)
    (s : State) : Out :=
  let b := s.op2val operand
  let dividend := s.seenY ++ s.readR rs1
  if b = 0 then s.raise .divisionByZero
  else
    .next (((s.writeR rd (quotient dividend b)).writeY (s.drawWord .divideY)).writeIcc
      (divIcc (quotient dividend b) (overflow dividend b))).advance

/-- MULScc steps (1) to (3): N xor V shifted into r[rs1] (R260). -/
def mulsccShifted (i : Icc) (a : Word) : Word := BitVec.ofBool (i.n ^^ i.v) ++ a.extractLsb' 1 31

/-- MULScc step (3): the second operand, or zero when the low bit of Y is 0 (R260). -/
def mulsccAddend (y b : Word) : Word := if y.getLsbD 0 then b else 0

/-- MULScc step (6): Y shifted right, the low bit of the unshifted r[rs1] coming in (R260). -/
def mulsccY (y a : Word) : Word := BitVec.ofBool (a.getLsbD 0) ++ y.extractLsb' 1 31

/-- MULScc: multiply step and modify icc (R260). -/
def execMulscc (rd rs1 : RegNum) (operand : Operand2) (s : State) : Out :=
  let a := s.readR rs1
  let op1 := mulsccShifted s.seenIcc a
  let addend := mulsccAddend s.seenY (s.op2val operand)
  let res := op1 + addend
  .next (((s.writeR rd res).writeIcc (addIcc op1 addend res)).writeY (mulsccY s.seenY a)).advance

/-- UMUL: unsigned integer multiply (R263). -/
def execUmul (rd rs1 : RegNum) (operand : Operand2) (s : State) : Out :=
  multiply umulProduct rd rs1 operand s

/-- SMUL: signed integer multiply (R264). -/
def execSmul (rd rs1 : RegNum) (operand : Operand2) (s : State) : Out :=
  multiply smulProduct rd rs1 operand s

/-- UMULcc: unsigned integer multiply and modify icc (R265). -/
def execUmulcc (rd rs1 : RegNum) (operand : Operand2) (s : State) : Out :=
  multiplyCc umulProduct rd rs1 operand s

/-- SMULcc: signed integer multiply and modify icc (R266). -/
def execSmulcc (rd rs1 : RegNum) (operand : Operand2) (s : State) : Out :=
  multiplyCc smulProduct rd rs1 operand s

/-- UDIV: unsigned integer divide (R268). -/
def execUdiv (rd rs1 : RegNum) (operand : Operand2) (s : State) : Out :=
  divide udivQuotient rd rs1 operand s

/-- SDIV: signed integer divide (R269). -/
def execSdiv (rd rs1 : RegNum) (operand : Operand2) (s : State) : Out :=
  divide (sdivQuotient s.cfg.sdivNegOvf) rd rs1 operand s

/-- UDIVcc: unsigned integer divide and modify icc (R270). -/
def execUdivcc (rd rs1 : RegNum) (operand : Operand2) (s : State) : Out :=
  divideCc udivQuotient udivOverflow rd rs1 operand s

/-- SDIVcc: signed integer divide and modify icc (R271). -/
def execSdivcc (rd rs1 : RegNum) (operand : Operand2) (s : State) : Out :=
  divideCc (sdivQuotient s.cfg.sdivNegOvf) (sdivOverflow s.cfg.sdivNegOvf) rd rs1 operand s

end Sys2Proof.Machine
end

