-- ==== Sys2Proof/Machine/StateReg.lean ====
section
/-! DEFINITION. Read and write state register instructions, STBAR, UNIMP and FLUSH (48_state_reg_misc). -/

namespace Sys2Proof.Machine

/-- A privileged read into r[rd] (R380). -/
def readPrivileged (v : Word) (rd : RegNum) (s : State) : Out :=
  if !s.seenS then s.raise .privilegedInstruction else .next (s.writeR rd v).advance

/-- The value a write state register instruction writes: an exclusive or (R386). -/
def State.writeValue (s : State) (rs1 : RegNum) (operand : Operand2) : Word := s.readR rs1 ^^^ s.op2val operand

/-- The bits of a one-field register whose reads are undefined after a write: all of `field`, or none if nothing changed. -/
def changedOrNone (field : Word) (changed : Bool) : Word := if changed then field else 0

/-- WRPSR's write (R388), applied at once, with its window (R392; log 6). -/
def State.writePsr (value : Word) (s : State) : State :=
  ({ s with psr := Psr.ofWord value }.advance).openWindow .psr
    (changedFields psrFields (s.psr.toWord s.cfg) ((Psr.ofWord value).toWord s.cfg)) (s.psr.toWord s.cfg)

/-- WRWIM's write (R389): bits of unimplemented windows stay zero. -/
def State.writeWim (value : Word) (s : State) : State :=
  ({ s with wim := value &&& s.windowMask }.advance).openWindow .wim
    (changedOrNone (BitVec.allOnes 32) (s.wim != (value &&& s.windowMask))) s.wim

/-- WRTBR's write (R390): TBA alone. -/
def State.writeTbr (value : Word) (s : State) : State :=
  ({ s with tbr := { s.tbr with tba := value.extractLsb' 12 20 } }.advance).openWindow .tbr
    (changedOrNone 0xFFFFF000 (s.tbr.tba != value.extractLsb' 12 20)) s.tbr.toWord

/-- WRY's write (R387). -/
def State.writeYReg (value : Word) (s : State) : State :=
  ({ s with y := value }.advance).openWindow .y (changedOrNone (BitVec.allOnes 32) (s.y != value)) s.y

/-- WRASR's write of ancillary register n. -/
def State.writeAsr (n : RegNum) (value : Word) (s : State) : State :=
  ({ s with asr := s.asr.setIfInBounds n.toNat value }.advance).openWindow (.asr n)
    (changedOrNone (BitVec.allOnes 32) (s.asrValue n != value)) (s.asrValue n)

/-- What ASR_IMPL says of an ancillary register (R382; log 12). -/
def State.asrSpec (s : State) (n : RegNum) : Option AsrSpec := s.cfg.asrs.find? (fun a => a.num == n)

/-- Whether an ancillary register number is the implementation's, 16 to 31 (R382). -/
def asrImplementation (n : RegNum) : Bool := n.getLsbD 4

/-- An access to an ancillary register 16 to 31 (R382, R391): its privilege check, then `k`. -/
def asrAccess (n : RegNum) (k : State → Out) (s : State) : Out :=
  match s.asrSpec n with
  | none => s.raise .illegalInstruction
  | some a => if a.privileged && !s.seenS then s.raise .privilegedInstruction else k s

/-- A stale copy after a FLUSH: gone after five more instructions at the latest (20 R88). -/
def StaleDword.doom (e : StaleDword) : StaleDword := { e with flushLeft := some (min 5 (e.flushLeft.getD 5)) }

/-- `flush the doubleword` (R398, 20 R88): its stale copies are gone after five more instructions, those of an earlier FLUSH
no later for this one; the low three address bits are ignored (D23). No rule says in which space FLUSH acts: the model takes the
bank of the instruction space that S, as read after the FLUSH, selects, bank 0 where that space has none (its choice, log
27). -/
def State.flushDword (addr : Word) (s : State) : State :=
  { s with
    ibuf := s.ibuf.map (fun e =>
      if e.key = dwordKey (Memory.key ((s.bankOf s.instrAsi).getD 0) addr) then e.doom else e) }

/-- RDASR of a reserved number, an undefined result (R382, I12; log 11). -/
def readReservedAsr (rd : RegNum) (s : State) : Out := .next (s.writeR rd (s.drawWord .rdasr)).advance

/-- RDY: read Y (R381). -/
def execRdy (rd : RegNum) (s : State) : Out :=
  .next (s.writeR rd s.settled.seenY).advance

/-- RDASR: read an ancillary state register; a reserved number gives any value (R382). -/
def execRdasr (rd : RegNum) (source : AsrSource) (s : State) : Out :=
  if asrImplementation source.rs1 then
    asrAccess source.rs1
      (fun t => .next (t.writeR rd (Config.asrRead source.rs1 (t.settled.seenAsr source.rs1) rd source.low)).advance) s
  else readReservedAsr rd s

/-- RDPSR: read the PSR; S is read as the privilege check has found it, 1 (R383). -/
def execRdpsr (rd : RegNum) (s : State) : Out :=
  readPrivileged (Psr.toWord s.cfg { s.settled.seenPsr with s := s.seenS }) rd s

/-- RDWIM: read WIM (R384). -/
def execRdwim (rd : RegNum) (s : State) : Out :=
  readPrivileged s.settled.seenWim rd s

/-- RDTBR: read TBR (R385). -/
def execRdtbr (rd : RegNum) (s : State) : Out :=
  readPrivileged (Tbr.toWord { s.tbr with tba := s.settled.seenTba }) rd s

/-- WRY: write Y (R387). -/
def execWry (rs1 : RegNum) (operand : Operand2) (s : State) : Out :=
  .next (s.writeYReg (s.writeValue rs1 operand))

/-- WRASR: write an ancillary state register; a reserved number takes any value (log 11) (R391). -/
def execWrasr (rd rs1 : RegNum) (operand : AsrOperand) (s : State) : Out :=
  if asrImplementation rd then
    asrAccess rd
      (fun t => .next (t.writeAsr rd (Config.asrWrite rd (t.readR rs1) (t.asrOp2val operand) (asrFields rs1 operand)))) s
  else .next (s.writeAsr rd (s.drawWord .wrasr))

/-- WRPSR: write the PSR; a CWP of no window traps (R388). -/
def execWrpsr (rs1 : RegNum) (operand : Operand2) (s : State) : Out :=
  let value := s.writeValue rs1 operand
  if !s.seenS then s.raise .privilegedInstruction
  else if s.nWindows ≤ (value.extractLsb' 0 5).toNat then s.raise .illegalInstruction
  else .next (s.writePsr value)

/-- WRWIM: write WIM (R389). -/
def execWrwim (rs1 : RegNum) (operand : Operand2) (s : State) : Out :=
  if !s.seenS then s.raise .privilegedInstruction else .next (s.writeWim (s.writeValue rs1 operand))

/-- WRTBR: write TBA (R390). -/
def execWrtbr (rs1 : RegNum) (operand : Operand2) (s : State) : Out :=
  if !s.seenS then s.raise .privilegedInstruction else .next (s.writeTbr (s.writeValue rs1 operand))

/-- STBAR: store barrier: every store has already completed (20 R85; log 31) (R396). -/
def execStbar (s : State) : Out :=
  .next s.advance

/-- UNIMP: unimplemented instruction; const22 and the reserved bits are ignored (R397). -/
def execUnimp (_reserved : BitVec 5) (_const22 : BitVec 22) (s : State) : Out :=
  s.raise .illegalInstruction

/-- FLUSH: flush instruction memory (R398). -/
def execFlush (rs1 : RegNum) (operand : Operand2) (s : State) : Out :=
  match s.cfg.flushMode with
  | .unimplementedFlush => s.raise .unimplementedFlush
  | .illegalInstruction => s.raise .illegalInstruction
  | .executes => .next (s.advance.flushDword (s.effectiveAddress rs1 operand))

end Sys2Proof.Machine
end

