-- ==== Sys2Proof/Machine/Store.lean ====
section
/-! DEFINITION. The store instructions: integer (41 R170 to R178), floating-point (R179 to R183), coprocessor (R184 to R188). -/

namespace Sys2Proof.Machine

/-- Storing the least significant byte of r[rd] (R171). -/
def storeByte (rd : RegNum) (asi : Asi) (ea : Word) (s : State) : Out :=
  storeAt 1 (State.store1 · ((s.readR rd).extractLsb' 0 8)) spoilNothing asi ea s

/-- Storing the less significant halfword of r[rd] (R172). -/
def storeHalf (rd : RegNum) (asi : Asi) (ea : Word) (s : State) : Out :=
  storeAt 2 (State.store2 · ((s.readR rd).extractLsb' 0 16)) spoilNothing asi ea s

/-- Storing r[rd] (R173). -/
def storeWord (rd : RegNum) (asi : Asi) (ea : Word) (s : State) : Out :=
  storeAt 4 (State.store4 · (s.readR rd)) spoilNothing asi ea s

/-- Storing the pair of rd, the even register first (R174). -/
def storePair (rd : RegNum) (asi : Asi) (ea : Word) (s : State) : Out :=
  storeAt 8 (State.store8 · (s.readRPair rd)) spoilFirstWord asi ea s

/-- STB: store byte (R171). -/
def execStb (rd rs1 : RegNum) (operand : Operand2) (s : State) : Out :=
  ordinary false rd rs1 operand (storeByte rd) s

/-- STH: store halfword (R172). -/
def execSth (rd rs1 : RegNum) (operand : Operand2) (s : State) : Out :=
  ordinary false rd rs1 operand (storeHalf rd) s

/-- ST: store word (R173). -/
def execSt (rd rs1 : RegNum) (operand : Operand2) (s : State) : Out :=
  ordinary false rd rs1 operand (storeWord rd) s

/-- STD: store doubleword (R174). -/
def execStd (rd rs1 : RegNum) (operand : Operand2) (s : State) : Out :=
  ordinary true rd rs1 operand (storePair rd) s

/-- STBA: store byte into an alternate space (R175). -/
def execStba (rd rs1 : RegNum) (operand : AltOperand) (s : State) : Out :=
  alternate false rd rs1 operand (storeByte rd) s

/-- STHA: store halfword into an alternate space (R176). -/
def execStha (rd rs1 : RegNum) (operand : AltOperand) (s : State) : Out :=
  alternate false rd rs1 operand (storeHalf rd) s

/-- STA: store word into an alternate space (R177). -/
def execSta (rd rs1 : RegNum) (operand : AltOperand) (s : State) : Out :=
  alternate false rd rs1 operand (storeWord rd) s

/-- STDA: store doubleword into an alternate space (R178). -/
def execStda (rd rs1 : RegNum) (operand : AltOperand) (s : State) : Out :=
  alternate true rd rs1 operand (storePair rd) s

/-- Storing f[rd] (R180). -/
def storeF (rd : RegNum) (asi : Asi) (ea : Word) (s : State) : Out :=
  storeAt 4 (State.store4 · (s.readF rd)) spoilNothing asi ea s

/-- Storing fd[rd] (R181). -/
def storeFd (rd : RegNum) (asi : Asi) (ea : Word) (s : State) : Out :=
  storeAt 8 (State.store8 · (s.readFd rd)) spoilFirstWord asi ea s

/-- The FSR as STFSR stores it. -/
def State.fsrWord (s : State) : Word := s.fsr.toWord s.cfg s.qne

/-- STFSR may zero ftt after the store (R182). -/
def State.zeroFtt (s : State) : State :=
  if s.cfg.stfsrZeroesFtt then { s with fsr := { s.fsr with ftt := 0 } } else s

/-- Storing the FSR (R182). -/
def storeFsr (asi : Asi) (ea : Word) (s : State) : Out :=
  storeAt 4 (fun key t => (t.store4 key s.fsrWord).zeroFtt) spoilNothing asi ea s

/-- Removing the front entry of the FQ where STDFQ does (R183; log 18). R183 leaves further effects to the implementation: a
deferred trap still pending is neither taken nor cleared, so the next FPop or FBfcc takes it (the model's choice, log 18). -/
def State.popFq (s : State) : State := if s.cfg.stdfqPops then { s with fq := s.fq.tail } else s

/-- Storing the front of the FQ (R183): sequence_error where there is no queue or it is empty. -/
def storeFq (asi : Asi) (ea : Word) (s : State) : Out :=
  if !s.cfg.fqPresent then s.raiseFp 4
  else
    match s.fq with
    | [] => s.raiseFp 4
    | e :: _ => storeAt 8 (fun key t => (t.store8 key e).popFq) spoilFirstWord asi ea s

/-- Storing coprocessor register rd (R185); what that does to the coprocessor is CP_SEMANTICS (R184; log 19). -/
def storeC (rd : RegNum) (asi : Asi) (ea : Word) (s : State) : Out :=
  storeAt 4 (fun key t => (t.store4 key (s.readC rd)).cpMove (.stc rd)) spoilNothing asi ea s

/-- The doubleword of a coprocessor register pair: which register supplies which word is the coprocessor's, as is what an odd
rd stores (R186; log 19). -/
def State.cPair (s : State) (rd : RegNum) : Dword :=
  if rd.getLsbD 0 then Config.cpStoreOdd rd s.cp else Config.cpStorePair rd (s.readC rd) (s.readC (oddReg rd))

/-- Storing a coprocessor register pair (R186); what that does to the coprocessor is CP_SEMANTICS (R184; log 19). -/
def storeCPair (rd : RegNum) (asi : Asi) (ea : Word) (s : State) : Out :=
  storeAt 8 (fun key t => (t.store8 key (s.cPair rd)).cpMove (.stdc rd)) spoilFirstWord asi ea s

/-- Storing the Coprocessor State Register (R187); what that does to the coprocessor is CP_SEMANTICS (R184; log 19). -/
def storeCsr (asi : Asi) (ea : Word) (s : State) : Out :=
  storeAt 4 (fun key t => (t.store4 key s.cp.csr).cpMove .stcsr) spoilNothing asi ea s

/-- The front of the coprocessor queue; of an empty one, any value (R188; log 18). -/
def State.cqFront (s : State) : Dword := s.cp.cq.headD ((s.draw .cqEntry).setWidth 64)

/-- The coprocessor after STDCQ: CP_SEMANTICS (R184, R188; log 19), but for the queue where STDCQ is known to remove the front
entry (log 18). -/
def State.popCq (s : State) : State :=
  if s.cfg.stdcqPops then { s with cp := { Config.cpMoved .stdcq s.cp with cq := s.cp.cq.tail } } else s.cpMove .stdcq

/-- Storing the front of the CQ (R188); without a queue the coprocessor raises cp_exception (I8; log 20). -/
def storeCq (asi : Asi) (ea : Word) (s : State) : Out :=
  if !s.cfg.cqPresent then s.raiseCp
  else
    storeAt 8 (fun key t => (t.store8 key s.cqFront).popCq) spoilFirstWord asi ea s

/-- Whether STDCQ raises illegal_instruction for want of a queue: it comes before cp_disabled (60 R474). -/
def stdcqIllegal (s : State) : Bool :=
  s.cfg.cpPresent && !s.cfg.cqPresent && s.cfg.stdcqNoQueue == .illegalInstruction

/-- STF: store f[rd] (R180). -/
def execStf (rd rs1 : RegNum) (operand : Operand2) (s : State) : Out :=
  fpAccess false s.cfg.fpStoresSequenced false 4 rd rs1 operand (storeF rd) s

/-- STDF: store fd[rd] (R181). -/
def execStdf (rd rs1 : RegNum) (operand : Operand2) (s : State) : Out :=
  fpAccess false s.cfg.fpStoresSequenced true 8 rd rs1 operand (storeFd rd) s

/-- STFSR: store the FSR; the rd field is ignored (I20) (R182). -/
def execStfsr (rd rs1 : RegNum) (operand : Operand2) (s : State) : Out :=
  fpAccess false s.cfg.fpStoresSequenced false 4 rd rs1 operand storeFsr s

/-- STDFQ: store the front of the floating-point queue; the rd field is ignored (I20) (R183). -/
def execStdfq (rd rs1 : RegNum) (operand : Operand2) (s : State) : Out :=
  fpAccess true false false 8 rd rs1 operand storeFq s

/-- STC: store coprocessor register rd (R185). -/
def execStc (rd rs1 : RegNum) (operand : Operand2) (s : State) : Out :=
  cpAccess false 4 rs1 operand (storeC rd) s

/-- STDC: store a coprocessor register pair (R186). -/
def execStdc (rd rs1 : RegNum) (operand : Operand2) (s : State) : Out :=
  cpAccess false 8 rs1 operand (storeCPair rd) s

/-- STCSR: store the Coprocessor State Register; the rd field is ignored (I20) (R187). -/
def execStcsr (_rd rs1 : RegNum) (operand : Operand2) (s : State) : Out :=
  cpAccess false 4 rs1 operand storeCsr s

/-- STDCQ: store the front of the coprocessor queue; the rd field is ignored (I20) (R188). -/
def execStdcq (_rd rs1 : RegNum) (operand : Operand2) (s : State) : Out :=
  if s.seenS && stdcqIllegal s then s.raise .illegalInstruction
  else cpAccess true 8 rs1 operand storeCq s

end Sys2Proof.Machine
end

