-- ==== Sys2Proof/Machine/Window.lean ====
section
/-! DEFINITION. SAVE and RESTORE (46 R280 to R282). -/

namespace Sys2Proof.Machine

/-- The ADD of SAVE and RESTORE (R280): operands read in the old window, the sum written in the new one. -/
def moveWindow (w : BitVec 5) (overflow : Trap) (rd rs1 : RegNum) (operand : Operand2) (s : State) : Out :=
  if s.windowMarked w then s.raise overflow
  else .next ((s.writeRW w rd (s.readR rs1 + s.op2val operand)).writeCwp w).advance

/-- SAVE: save caller's window (R281). -/
def execSave (rd rs1 : RegNum) (operand : Operand2) (s : State) : Out :=
  moveWindow (s.prevWindow s.seenCwp) .windowOverflow rd rs1 operand s

/-- RESTORE: restore caller's window (R282). -/
def execRestore (rd rs1 : RegNum) (operand : Operand2) (s : State) : Out :=
  moveWindow (s.nextWindow s.seenCwp) .windowUnderflow rd rs1 operand s

end Sys2Proof.Machine
end

