-- ==== Sys2Proof/Machine/Unimplemented.lean ====
section
/-! DEFINITION. HW_UNIMPLEMENTED (00_scope R7, 60 R477, D16; log 28): the instructions an implementation leaves to software. -/

namespace Sys2Proof.Machine

/-- Whether an instruction is not implemented in hardware. -/
def unimplementedInHardware (s : State) (i : Instr) : Bool := s.cfg.unimplemented.contains i.mnemonic

/-- The instructions that are privileged whatever their operands (60 R491). -/
def privilegedMnemonics : List String :=
  ["LDSBA", "LDSHA", "LDUBA", "LDUHA", "LDA", "LDDA", "STBA", "STHA", "STA", "STDA", "STDFQ", "STDCQ", "LDSTUBA",
    "SWAPA", "RETT", "RDPSR", "RDWIM", "RDTBR", "WRPSR", "WRWIM", "WRTBR"]

/-- The ancillary state register that an instruction reads or writes (48 R382, R391). -/
def asrOf : Instr → Option RegNum
  | .rdasr _ source => some source.rs1
  | .wrasr rd _ _ => some rd
  | _ => none

/-- Whether an ancillary register is one of the implementation's and privileged (48 R382; log 12). -/
def State.asrPrivileged (s : State) (n : RegNum) : Bool :=
  asrImplementation n && (s.asrSpec n).any (fun a => a.privileged)

/-- Whether an instruction is privileged (60 R491): RDASR and WRASR are where the register they name is. -/
def needsSupervisor (i : Instr) (s : State) : Bool :=
  privilegedMnemonics.contains i.mnemonic || (asrOf i).any s.asrPrivileged

/-- Whether an instruction is an FPop (49 R410): its encoding has op3 = 0x34 or 0x35. -/
def isFpop (i : Instr) : Bool :=
  (encode i).extractLsb' 30 2 == 2 && ((encode i).extractLsb' 19 6 == 0x34 || (encode i).extractLsb' 19 6 == 0x35)

/-- An instruction that is not implemented in hardware (60 R477): privileged_instruction still comes first (60 R474), an
FPop raises fp_exception with ftt = 3 after its own checks, any other raises illegal_instruction, an RDASR or a WRASR of a
reserved register too, though 48 R382 never has illegal_instruction for rs1 1 to 14 (the model's choice, log 28). -/
def execUnimplemented (i : Instr) (s : State) : Out :=
  if isFpop i then fpopUnimplemented s
  else if needsSupervisor i s && !s.seenS then s.raise .privilegedInstruction
  else s.raise .illegalInstruction

end Sys2Proof.Machine
end

