-- ==== Sys2Proof/Machine/Step.lean ====
section
/-! DEFINITION. One step of the processor (10_state R27), and placing an instruction where the next step fetches it. -/

namespace Sys2Proof.Machine

/-- Executing a fetched word (R27, 30 R117, R120, 60 R471, R477). -/
def execWord (w : Word) (s : State) : Host.Outcome State Fault Refusal :=
  match decode w with
  | .unassigned => s.raise .illegalInstruction
  | .unassignedFpop => fpopUnimplemented s
  | .instr i =>
    if s.cfg.unusedBits == .refuse && unusedFieldSet w i then .refused (.unusedFieldSet w)
    else
      match s.registerFault w with
      | some t => s.raise t
      | none => if unimplementedInHardware s i then execUnimplemented i s else exec i s

/-- What the fetch answered (R27, 60 R477). -/
def execFetched (f : Fetched) (s : State) : Host.Outcome State Fault Refusal :=
  match f with
  | .trap t => s.raise t
  | .absent asi => .refused (.asiWithoutStorage asi)
  | .unwritten => .fault .memoryUnwritten
  | .word w => execWord w s

/-- One step (R27): a reset request, error_mode, an asynchronous store failure, an interrupt, an annulled instruction, or
the instruction at PC. A reset request is seen in error_mode too (70 R520; log 25). -/
def step (s : State) : Host.Outcome State Fault Refusal :=
  if s.resetReq then .next s.takeReset
  else if s.errorMode then .fault .errorMode
  else if s.storeError then .next s.takeStoreError
  else if s.interruptTaken then .next s.takeInterrupt
  else if s.annul then .next s.skip
  else execFetched s.fetch s

/-- The state whose next step fetches the table's word `w` of `nbits` bits, every bit above `nbits` being 0. -/
def State.withFetchWord (s : State) (nbits w : Nat) : State :=
  s.placeInstruction (BitVec.ofNat 32 (w % 2 ^ nbits))

end Sys2Proof.Machine
end

