-- ==== Sys2Proof/Safety.lean ====
section
/-! DEFINITION. The terms statements about the machine use: the invariant, what a step may leave alone (frames), what it
means that a register, a run of bytes or a trap's record was written, and the instructions of one shape as tables of
constructor and arithmetic. -/

namespace Sys2Proof

open Machine

/-- What the spec says of every state (10_state R22, R26, R35, R36) and what the memory's form is: PC and nPC are word
aligned, CWP is the number of a window, the bits of WIM at and above NWINDOWS are zero, G[0] is zero, memory is canonical. -/
structure Inv (s : State) : Prop where
  pcAligned : s.pc.toNat % 4 = 0
  npcAligned : s.npc.toNat % 4 = 0
  cwpLegal : s.psr.cwp.toNat < s.nWindows
  wimLegal : s.wim &&& ~~~s.windowMask = 0
  globalZero : (s.g[0]?).getD 0 = 0
  memoryCanonical : s.mem.wf = true

/-! ### Frames -/

/-- The parts of the state a frame speaks of. -/
inductive Part where
  /-- The parameters of 00_scope R7. -/
  | config
  /-- PC and nPC. -/
  | counters
  | annul
  | errorMode
  /-- The r registers of every window. -/
  | intRegs
  /-- PSR.icc. -/
  | icc
  /-- PSR.EC, PSR.EF and PSR.PIL, which only WRPSR writes. -/
  | enables
  /-- PSR.S. -/
  | supervisor
  /-- PSR.PS. -/
  | previous
  /-- PSR.ET. -/
  | et
  /-- PSR.CWP. -/
  | cwp
  | wim
  /-- TBR.TBA. -/
  | tba
  /-- TBR.tt. -/
  | tt
  | y
  /-- The ancillary state registers. -/
  | asr
  /-- The f registers. -/
  | fRegs
  | fsr
  /-- The floating-point queue and its pending trap. -/
  | fpQueue
  /-- The coprocessor's registers, CSR, queue and condition. -/
  | coprocessor
  /-- Every byte of memory. -/
  | memory
  /-- The inputs: IRL, the reset request, a reported store failure, a coprocessor exception. -/
  | inputs
  /-- Whether the space of the following fetches is open (70 R530). -/
  | fetchSpace
  /-- What counts instructions: open windows (70 R524, R527, R528, R530), the instruction buffer (20 R88), free values. -/
  | clock
  deriving DecidableEq, Repr

/-- Two states agree on a part. -/
def Part.same (s t : State) : Part → Prop
  | .config => t.cfg = s.cfg
  | .counters => t.pc = s.pc ∧ t.npc = s.npc
  | .annul => t.annul = s.annul
  | .errorMode => t.errorMode = s.errorMode
  | .intRegs => ∀ w n, t.readRW w n = s.readRW w n
  | .icc => t.psr.icc = s.psr.icc
  | .enables => t.psr.ec = s.psr.ec ∧ t.psr.ef = s.psr.ef ∧ t.psr.pil = s.psr.pil
  | .supervisor => t.psr.s = s.psr.s
  | .previous => t.psr.ps = s.psr.ps
  | .et => t.psr.et = s.psr.et
  | .cwp => t.psr.cwp = s.psr.cwp
  | .wim => t.wim = s.wim
  | .tba => t.tbr.tba = s.tbr.tba
  | .tt => t.tbr.tt = s.tbr.tt
  | .y => t.y = s.y
  | .asr => t.asr = s.asr
  | .fRegs => ∀ n, t.readF n = s.readF n
  | .fsr => t.fsr = s.fsr
  | .fpQueue => t.fq = s.fq ∧ t.fpPending = s.fpPending
  | .coprocessor => t.cp = s.cp
  | .memory => ∀ k, t.mem.read1 k = s.mem.read1 k
  | .inputs => t.irl = s.irl ∧ t.resetReq = s.resetReq ∧ t.storeError = s.storeError ∧ t.cpExc = s.cpExc
  | .fetchSpace => t.fetchDoubt = s.fetchDoubt
  | .clock =>
    t.pending = s.pending ∧ t.afterFpop2 = s.afterFpop2 ∧ t.afterJmpl = s.afterJmpl ∧ t.ldfsrLeft = s.ldfsrLeft ∧
      t.ibuf = s.ibuf ∧ t.freeCount = s.freeCount

/-- Two states agree on every part but the listed ones. -/
def Frame (changed : List Part) (s t : State) : Prop := ∀ p, p ∉ changed → p.same s t

/-- The ordinary end of an instruction (10_state R27). -/
def Advanced (s t : State) : Prop := t.pc = s.npc ∧ t.npc = s.npc + 4

/-- A delayed control transfer (10_state R27). -/
def Transferred (s t : State) (target : Word) : Prop := t.pc = s.npc ∧ t.npc = target

/-! ### Registers and memory -/

/-- Whether r_w[m] and r_v[n] are one cell of storage (10_state R22); r[0] is none (R23). -/
def sameReg (s : State) (w : BitVec 5) (m : RegNum) (v : BitVec 5) (n : RegNum) : Bool :=
  m != 0 && ((decide (m.toNat < 8) && m == n) ||
    (decide (8 ≤ m.toNat) && decide (8 ≤ n.toNat) && s.cell w m == s.cell v n))

/-- r_w[n] took a value and no other register changed: the value is seen under every name of its cell, and nowhere where n
is 0. -/
def RegWritten (s t : State) (w : BitVec 5) (n : RegNum) (v : Word) : Prop :=
  ∀ u m, t.readRW u m = if sameReg s u m w n then v else s.readRW u m

/-- The pair of r_w[n] took a doubleword (R24), and no other register changed. -/
def PairWritten (s t : State) (w : BitVec 5) (n : RegNum) (v : Dword) : Prop :=
  ∀ u m, t.readRW u m =
    if sameReg s u m w (oddReg n) then v.extractLsb' 0 32
    else if sameReg s u m w (evenReg n) then v.extractLsb' 32 32
    else s.readRW u m

/-- PSR.icc took a value: with no WRPSR window open (70 R524). -/
def IccWritten (s t : State) (i : Icc) : Prop := s.inWindow .psr = false → t.psr.icc = i

/-- Y took a value: with no WRY window open (70 R524). -/
def YWritten (s t : State) (v : Word) : Prop := s.inWindow .y = false → t.y = v

/-- f[n] took a value, and no other f register changed. -/
def FWritten (s t : State) (n : RegNum) (v : Word) : Prop := ∀ m, t.readF m = if m = n then v else s.readF m

/-- Whether f[m] is one of the registers of an operand of a precision at f[n] (10_state R40). -/
def precCovers (p : Prec) (n m : RegNum) : Bool :=
  match p with
  | .single => m == n
  | .double => evenReg m == evenReg n
  | .quad => m &&& 0x1C == n &&& 0x1C

/-- The number of bits of a precision. -/
def precWidth : Prec → Nat
  | .single => 32
  | .double => 64
  | .quad => 128

/-- The f registers of an operand took a value, and no other f register changed. -/
def FpWritten (s t : State) (p : Prec) (n : RegNum) (v : Nat) : Prop :=
  t.readFp p n = v % 2 ^ precWidth p ∧ ∀ m, precCovers p n m = false → t.readF m = s.readF m

/-- The byte at distance `j` of an `n`-byte value, the most significant first (20 R72). -/
def byteOf (n v j : Nat) : Byte := BitVec.ofNat 8 (v / 256 ^ (n - 1 - j))

/-- The `n` bytes from a key hold a value, the most significant first (20 R72). -/
def BytesAt (m : Memory) (k n v : Nat) : Prop := ∀ j, j < n → m.read1 (k + j) = some (byteOf n v j)

/-- The `n` bytes from a key took a value, and no other byte of memory changed. -/
def Stored (s t : State) (k n v : Nat) : Prop :=
  ∀ j, t.mem.read1 j = if k ≤ j ∧ j < k + n then some (byteOf n v (j - k)) else s.mem.read1 j

/-! ### Traps -/

/-- What an instruction does that a data access trap ends (20 R90, D26): it takes trap `x` in a state that differs from `s` in
the parts `changed` alone, as `P` says. -/
def TrapsAfter (s : State) (o : Out) (x : Trap) (changed : List Part) (P : State → Prop) : Prop :=
  ∃ u, Frame changed s u ∧ P u ∧ o = .next (u.trap x)

/-- The oracle answers an aligned access of `n` bytes with a trap (20 R84). -/
def AccessFaults (s : State) (kind : AccessKind) (asi : Asi) (ea : Word) (n : Nat) (x : Trap) : Prop :=
  ea.toNat % n = 0 ∧ s.locate kind asi ea n s.seenS = .trap x

/-- No byte of memory but those of the word at an address changed. -/
def FirstWordOnly (s : State) (asi : Asi) (ea : Word) (u : State) : Prop :=
  ∀ j, (∀ b, s.bankOf asi = some b → j < Memory.key b ea ∨ Memory.key b ea + 4 ≤ j) → u.mem.read1 j = s.mem.read1 j

/-- Trap entry with trap type `tt` (60 R480, R481), with no window of a write state register instruction open: ET cleared,
S saved in PS and set, the previous window, PC and nPC in its r[17] and r[18], tt written, the handler's address; nothing
else changes. -/
structure TrapEntered (s t : State) (tt : BitVec 8) : Prop where
  et : t.psr.et = false
  ps : t.psr.ps = s.psr.s
  supervisor : t.psr.s = true
  cwp : t.psr.cwp.toNat = (s.psr.cwp.toNat + s.nWindows - 1) % s.nWindows
  recorded : t.tbr.tt = tt
  saved : ∀ u m, t.readRW u m =
    if sameReg s u m t.psr.cwp 18 then s.npc else if sameReg s u m t.psr.cwp 17 then s.pc else s.readRW u m
  handler : t.pc = s.tbr.tba ++ tt ++ 0#4
  next : t.npc = t.pc + 4
  frame : Frame [.et, .previous, .supervisor, .cwp, .tt, .intRegs, .counters, .fetchSpace, .clock] s t

/-- `error_halt` (60 R484): tt is written and the processor stops; nothing else changes. -/
def Halted (s t : State) (trap : Trap) : Prop :=
  t.errorMode = true ∧ t.tbr.tt = trap.tt ∧ Frame [.errorMode, .tt] s t

/-- Nothing comes before the fetch in a step (10_state R27). -/
structure BeforeFetch (s : State) : Prop where
  reset : s.resetReq = false
  running : s.errorMode = false
  stored : s.storeError = false
  quiet : s.interruptTaken = false
  executed : s.annul = false

/-- The state without an annulled instruction at PC (10_state R27, 60 R480 step 0). -/
def pastAnnulled (s : State) : State := if s.annul then { s with annul := false, pc := s.npc, npc := s.npc + 4 } else s

/-- A step fetches a word (10_state R27): nothing comes before it, no stale copy is in the way, and the four bytes at PC in the
instruction space are the word's. -/
structure Fetches (s : State) (w : Word) : Prop where
  first : BeforeFetch s
  noCopy : s.ibuf = []
  bytes : ∃ k, s.locate .fetch s.instrAsi s.pc 4 s.fetchSupervisor = .found k ∧ BytesAt s.mem k 4 w.toNat

/-- A word is that of an instruction: it decodes to it, no unused field is refused (30 R120; log 3), and the oracle lets its
registers be read (60 R471; log 36). -/
structure IsWordOf (s : State) (w : Word) (i : Instr) : Prop where
  decoded : decode w = .instr i
  unused : s.cfg.unusedBits = .refuse → unusedFieldSet w i = false
  registers : ∀ n ∈ sourceRegisters w, s.registerTrap n = none

/-- The FPU holds no deferred trap and its queue is empty, where it has one. -/
def FpQuiet (s : State) : Prop := s.cfg.fqPresent = true → s.fpPending = none ∧ s.fq = []

/-- No window of a privileged write state register instruction is open (70 R524). -/
def PrivilegedSettled (s : State) : Prop :=
  s.inWindow .psr = false ∧ s.inWindow .wim = false ∧ s.inWindow .tbr = false

/-- Whatever an instruction does, if it answers a next state then `P` holds of it. -/
def Always (P : State → Prop) : Out → Prop
  | .next t => P t
  | .fault _ => True
  | .refused _ => True

/-! ### Branches -/

/-- What a branch decides: always and never are cases of their own for the annul bit (46 R283). -/
inductive Decision where
  | always
  | never
  | test (holds : Bool)
  deriving DecidableEq, Repr

/-- Whether the decision transfers control. -/
def Decision.taken : Decision → Bool
  | .always => true
  | .never => false
  | .test holds => holds

/-- Whether the delay instruction is annulled (46 R283). -/
def Decision.annuls (a : Bool) : Decision → Bool
  | .always => a
  | .never => a
  | .test holds => a && !holds

/-- A branch (46 R283): the target PC + 4 * sext(disp22) after the delay instruction if it is taken, the annul flag, and
nothing else. -/
def Branched (s t : State) (d : Decision) (a : Bool) (disp22 : BitVec 22) : Prop :=
  Transferred s t (if d.taken then s.pc + BitVec.ofInt 32 (4 * disp22.toInt) else s.npc + 4) ∧
    t.annul = d.annuls a ∧ Frame [.counters, .annul, .clock] s t

/-! ### Instructions of one shape -/

/-- The constructor of a register instruction with a second operand. -/
abbrev Make3 := RegNum → RegNum → Operand2 → Instr

/-- The constructor of an alternate-space instruction. -/
abbrev MakeAlt := RegNum → RegNum → AltOperand → Instr

/-- The logical instructions and their operation (43 R213 to R224): the plain form, the cc form, the result. -/
def logicals : List (Make3 × Make3 × (Word → Word → Word)) :=
  [(.and, .andcc, fun a b => a &&& b), (.andn, .andncc, fun a b => a &&& ~~~b), (.or, .orcc, fun a b => a ||| b),
   (.orn, .orncc, fun a b => a ||| ~~~b), (.xor, .xorcc, fun a b => a ^^^ b), (.xnor, .xnorcc, fun a b => ~~~(a ^^^ b))]

/-- The shifts (43 R226 to R228) and the relation of operand, count and result, as arithmetic on numbers. -/
def shifts : List ((RegNum → RegNum → ShiftCount → Instr) × (Word → Nat → Word → Prop)) :=
  [(.sll, fun a n v => v.toNat = a.toNat * 2 ^ n % 2 ^ 32), (.srl, fun a n v => v.toNat = a.toNat / 2 ^ n),
   (.sra, fun a n v => v.toInt = a.toInt / 2 ^ n)]

/-- A sum or a difference: its exact value from two operands and a carry, and when it carries or borrows. -/
structure Sum where
  exact : Int → Int → Int → Int
  carries : Nat → Nat → Nat → Bool

/-- Addition: C is the carry out of bit 31 (44 R240). -/
def Sum.add : Sum := { exact := fun a b c => a + b + c, carries := fun a b c => decide (2 ^ 32 ≤ a + b + c) }

/-- Subtraction: C is the borrow (44 R241). -/
def Sum.sub : Sum := { exact := fun a b c => a - b - c, carries := fun a b c => decide (a < b + c) }

/-- The word a sum leaves: the exact value modulo 2^32. -/
def Sum.word (f : Sum) (a b : Word) (c : Bool) : Word := BitVec.ofInt 32 (f.exact a.toInt b.toInt c.toNat)

/-- Whether the exact value is no signed 32-bit number. -/
def Sum.overflows (f : Sum) (a b : Word) (c : Bool) : Bool := f.exact a.toInt b.toInt c.toNat != (f.word a b c).toInt

/-- The condition codes of a sum, from the exact values; `v` is the overflow bit. -/
def Sum.icc (f : Sum) (a b : Word) (c v : Bool) : Icc where
  n := decide ((f.word a b c).toInt < 0)
  z := decide (f.word a b c = 0)
  v := v
  c := f.carries a.toNat b.toNat c.toNat

/-- The add and subtract instructions: plain form, cc form, the sum, and whether PSR.icc.C is the carry in (44 R243 to
R246, R250 to R253). -/
def sums : List (Make3 × Make3 × Sum × Bool) :=
  [(.add, .addcc, .add, false), (.addx, .addxcc, .add, true), (.sub, .subcc, .sub, false), (.subx, .subxcc, .sub, true)]

/-- The tagged instructions: the cc form, the trapping form, the sum (44 R248, R249, R255, R256). -/
def taggeds : List (Make3 × Make3 × Sum) := [(.taddcc, .taddcctv, .add), (.tsubcc, .tsubcctv, .sub)]

/-- A tag is not zero, or the sum overflows (44 R247, R254). -/
def Sum.tagOverflow (f : Sum) (a b : Word) : Bool := a.toNat % 4 != 0 || b.toNat % 4 != 0 || f.overflows a b false

/-- The condition codes of a value whose V is given and whose C is zero (45 R262, R267). -/
def plainIcc (w : Word) (v : Bool) : Icc where
  n := decide (w.toInt < 0)
  z := decide (w = 0)
  v := v
  c := false

/-- The value of a word, signed or not. -/
def value (signed : Bool) (w : Word) : Int := if signed then w.toInt else w.toNat

/-- The multiply instructions: plain form, cc form, signed (45 R263 to R266). -/
def multiplies : List (Make3 × Make3 × Bool) := [(.umul, .umulcc, false), (.smul, .smulcc, true)]

/-- The divide instructions: plain form, cc form, signed (45 R268 to R271). -/
def divides : List (Make3 × Make3 × Bool) := [(.udiv, .udivcc, false), (.sdiv, .sdivcc, true)]

/-- The dividend Y :: a (45 R267). -/
def dividend (signed : Bool) (y a : Word) : Int := if signed then (y ++ a).toInt else (y ++ a).toNat

/-- The least and the largest quotient a divide can write (45 R267). -/
def quotientRange (signed : Bool) : Int × Int := if signed then (-2147483648, 2147483647) else (0, 4294967295)

/-- The quotient, truncated toward zero and held to the range (45 R267). -/
def heldQuotient (signed : Bool) (n d : Int) : Int :=
  max (quotientRange signed).1 (min (quotientRange signed).2 (n.tdiv d))

/-- When a divide overflows (45 R267); method B of SDIV_NEG_OVF also counts -2^31 with a remainder. -/
def divideOverflows (method : SdivMethod) (signed : Bool) (n d : Int) : Bool :=
  decide (n.tdiv d < (quotientRange signed).1) || decide ((quotientRange signed).2 < n.tdiv d) ||
    (signed && method == .b && decide (n.tdiv d = -2147483648) && decide (n.tmod d ≠ 0))

/-- The integer branches and their tests (46 R284 to R300). -/
def iccBranches : List ((Bool → BitVec 22 → Instr) × (Icc → Decision)) :=
  [(.ba, fun _ => .always), (.bn, fun _ => .never), (.bne, fun i => .test (!i.z)), (.be, fun i => .test i.z),
   (.bg, fun i => .test (!(i.z || (i.n != i.v)))), (.ble, fun i => .test (i.z || (i.n != i.v))),
   (.bge, fun i => .test (i.n == i.v)), (.bl, fun i => .test (i.n != i.v)), (.bgu, fun i => .test (!(i.c || i.z))),
   (.bleu, fun i => .test (i.c || i.z)), (.bcc, fun i => .test (!i.c)), (.bcs, fun i => .test i.c),
   (.bpos, fun i => .test (!i.n)), (.bneg, fun i => .test i.n), (.bvc, fun i => .test (!i.v)),
   (.bvs, fun i => .test i.v)]

/-- The Ticc instructions and their tests (47 R355 to R371). -/
def iccTraps : List ((RegNum → TrapOperand → Instr) × (Icc → Bool)) :=
  [(.ta, fun _ => true), (.tn, fun _ => false), (.tne, fun i => !i.z), (.te, fun i => i.z),
   (.tg, fun i => !(i.z || (i.n != i.v))), (.tle, fun i => i.z || (i.n != i.v)), (.tge, fun i => i.n == i.v),
   (.tl, fun i => i.n != i.v), (.tgu, fun i => !(i.c || i.z)), (.tleu, fun i => i.c || i.z), (.tcc, fun i => !i.c),
   (.tcs, fun i => i.c), (.tpos, fun i => !i.n), (.tneg, fun i => i.n), (.tvc, fun i => !i.v), (.tvs, fun i => i.v)]

/-- The floating-point branches by the relations they test: 0 equal, 1 less, 2 greater, 3 unordered (46 R302 to R318). -/
def fccBranches : List ((Bool → BitVec 22 → Instr) × (BitVec 2 → Decision)) :=
  [(.fba, fun _ => .always), (.fbn, fun _ => .never), (.fbu, fun c => .test (c == 3)), (.fbg, fun c => .test (c == 2)),
   (.fbug, fun c => .test (c == 2 || c == 3)), (.fbl, fun c => .test (c == 1)),
   (.fbul, fun c => .test (c == 1 || c == 3)), (.fblg, fun c => .test (c == 1 || c == 2)),
   (.fbne, fun c => .test (c != 0)), (.fbe, fun c => .test (c == 0)), (.fbue, fun c => .test (c == 0 || c == 3)),
   (.fbge, fun c => .test (c == 0 || c == 2)), (.fbuge, fun c => .test (c != 1)),
   (.fble, fun c => .test (c == 0 || c == 1)), (.fbule, fun c => .test (c != 2)), (.fbo, fun c => .test (c != 3))]

/-- The coprocessor branches: the digits of the name are the values of bp_CP_cc tested (46 R320 to R336). -/
def cccBranches : List ((Bool → BitVec 22 → Instr) × (BitVec 2 → Decision)) :=
  [(.cba, fun _ => .always), (.cbn, fun _ => .never), (.cb3, fun c => .test (c == 3)), (.cb2, fun c => .test (c == 2)),
   (.cb23, fun c => .test (c == 2 || c == 3)), (.cb1, fun c => .test (c == 1)),
   (.cb13, fun c => .test (c == 1 || c == 3)), (.cb12, fun c => .test (c == 1 || c == 2)),
   (.cb123, fun c => .test (c != 0)), (.cb0, fun c => .test (c == 0)), (.cb03, fun c => .test (c == 0 || c == 3)),
   (.cb02, fun c => .test (c == 0 || c == 2)), (.cb023, fun c => .test (c != 1)),
   (.cb01, fun c => .test (c == 0 || c == 1)), (.cb013, fun c => .test (c != 2)), (.cb012, fun c => .test (c != 3))]

/-- An `n`-byte number as a word, sign-extended (00_scope R10). -/
def signedWord (n v : Nat) : Word := BitVec.ofInt 32 (if 2 * v < 256 ^ n then (v : Int) else (v : Int) - 256 ^ n)

/-- The integer loads of up to a word: ordinary form, alternate form, bytes, the word r[rd] takes (40 R141 to R151). -/
def loads : List (Make3 × MakeAlt × Nat × (Nat → Word)) :=
  [(.ldsb, .ldsba, 1, signedWord 1), (.ldsh, .ldsha, 2, signedWord 2), (.ldub, .lduba, 1, BitVec.ofNat 32),
   (.lduh, .lduha, 2, BitVec.ofNat 32), (.ld, .lda, 4, BitVec.ofNat 32)]

/-- The integer stores of up to a word: ordinary form, alternate form, bytes (41 R171 to R173, R175 to R177). -/
def stores : List (Make3 × MakeAlt × Nat) := [(.stb, .stba, 1), (.sth, .stha, 2), (.st, .sta, 4)]

/-- The FPops of one operand: constructor, precisions of source and result, and what they compute (49 R415 to R432). -/
def fpUnaries : List ((RegNum → RegNum → Instr) × Prec × Prec × (FpEnv → Nat → FpResult)) :=
  [(.fitos, .single, .single, fun e x => fpFromInt (Prec.format .single) e (BitVec.ofNat 32 x)),
   (.fitod, .single, .double, fun e x => fpFromInt (Prec.format .double) e (BitVec.ofNat 32 x)),
   (.fitoq, .single, .quad, fun e x => fpFromInt (Prec.format .quad) e (BitVec.ofNat 32 x)),
   (.fstoi, .single, .single, fun _ x => fpToInt (Prec.format .single) x),
   (.fdtoi, .double, .single, fun _ x => fpToInt (Prec.format .double) x),
   (.fqtoi, .quad, .single, fun _ x => fpToInt (Prec.format .quad) x),
   (.fstod, .single, .double, fpConvert (Prec.format .single) (Prec.format .double)),
   (.fstoq, .single, .quad, fpConvert (Prec.format .single) (Prec.format .quad)),
   (.fdtos, .double, .single, fpConvert (Prec.format .double) (Prec.format .single)),
   (.fdtoq, .double, .quad, fpConvert (Prec.format .double) (Prec.format .quad)),
   (.fqtos, .quad, .single, fpConvert (Prec.format .quad) (Prec.format .single)),
   (.fqtod, .quad, .double, fpConvert (Prec.format .quad) (Prec.format .double)),
   (.fsqrts, .single, .single, fpSqrt (Prec.format .single)), (.fsqrtd, .double, .double, fpSqrt (Prec.format .double)),
   (.fsqrtq, .quad, .quad, fpSqrt (Prec.format .quad))]

/-- The FPops of two operands: constructor, precisions of sources and result, and what they compute (49 R433 to R446). -/
def fpBinaries : List ((RegNum → RegNum → RegNum → Instr) × Prec × Prec × (FpEnv → Nat → Nat → FpResult)) :=
  [(.fadds, .single, .single, fpAdd (Prec.format .single)), (.faddd, .double, .double, fpAdd (Prec.format .double)),
   (.faddq, .quad, .quad, fpAdd (Prec.format .quad)), (.fsubs, .single, .single, fpSub (Prec.format .single)),
   (.fsubd, .double, .double, fpSub (Prec.format .double)), (.fsubq, .quad, .quad, fpSub (Prec.format .quad)),
   (.fmuls, .single, .single, fpMul (Prec.format .single) (Prec.format .single)),
   (.fmuld, .double, .double, fpMul (Prec.format .double) (Prec.format .double)),
   (.fmulq, .quad, .quad, fpMul (Prec.format .quad) (Prec.format .quad)),
   (.fsmuld, .single, .double, fpMul (Prec.format .single) (Prec.format .double)),
   (.fdmulq, .double, .quad, fpMul (Prec.format .double) (Prec.format .quad)),
   (.fdivs, .single, .single, fpDiv (Prec.format .single)), (.fdivd, .double, .double, fpDiv (Prec.format .double)),
   (.fdivq, .quad, .quad, fpDiv (Prec.format .quad))]

/-- The compares: constructor, precision, whether a quiet NaN is invalid (49 R448 to R453). -/
def fpCompares : List ((RegNum → RegNum → Instr) × Prec × Bool) :=
  [(.fcmps, .single, false), (.fcmpd, .double, false), (.fcmpq, .quad, false), (.fcmpes, .single, true),
   (.fcmped, .double, true), (.fcmpeq, .quad, true)]

/-- An FPop gets to its operation (49 R410, R411): the FPU is enabled, no deferred trap is pending, the queue is empty, the
register numbers are aligned. -/
structure FpReady (s : State) (regs : List (Prec × RegNum)) : Prop where
  enabled : s.fpEnabled = true
  noTrap : s.deferredTrap = none
  noQueue : s.qne = false
  aligned : s.cfg.fregAlignTraps = true → regsAligned regs = true

/-- The FSR after an FPop that completes with exceptions `exc` (49 R412). -/
def fsrAfter (r : Fsr) (exc : BitVec 5) : Fsr := { r with cexc := exc, aexc := r.aexc ||| exc, ftt := 0 }

/-- The rational number a finite value denotes (10_state R46). -/
def ratValue : FpVal → Option ℚ
  | .finite sign m e => some ((if sign then -1 else 1) * (m : ℚ) * (2 : ℚ) ^ e)
  | .inf _ => none
  | .nan _ _ => none

/-- The rounded value of an exact one in each direction (49 R413): nearest with ties to even, toward zero, up, down. `repr`
says which numbers the format has, `even` that the last bit of the rounded one is 0. -/
def RoundsTo (rd : BitVec 2) (repr : ℝ → Prop) (even : Prop) (exact rounded : ℝ) : Prop :=
  match rd with
  | 0#2 => ∀ y, repr y →
      |rounded - exact| ≤ |y - exact| ∧ (|rounded - exact| = |y - exact| → y = rounded ∨ even)
  | 1#2 => |rounded| ≤ |exact| ∧ 0 ≤ rounded * exact ∧ ∀ y, repr y → |y| ≤ |exact| → |y| ≤ |rounded|
  | 2#2 => exact ≤ rounded ∧ ∀ y, repr y → exact ≤ y → rounded ≤ y
  | _ => rounded ≤ exact ∧ ∀ y, repr y → y ≤ exact → y ≤ rounded

/-- The numbers of a format (10_state R46). -/
def IsNumber (f : Format) (y : ℝ) : Prop := ∃ b q, ratValue (f.unpack b) = some q ∧ y = (q : ℝ)

/-- Whether an overflow gives an infinity (49 R412): else the largest finite number. -/
def overflowsToInf (rd : BitVec 2) (negative : Bool) : Bool :=
  match rd with
  | 0#2 => true
  | 1#2 => false
  | 2#2 => !negative
  | _ => negative

/-- A result is an exact value rounded once to a format (49 R412, R413): without overflow it denotes the number the direction
picks and is inexact where that is another number; an exact value that overflows is larger than every number of the
format, and the result is an infinity or the largest number, with its sign. -/
def Rounded (p : Prec) (rd : BitVec 2) (exact : ℝ) (r : FpResult) : Prop :=
  ∃ bits, r.bits = .exact bits ∧
    if r.exc &&& excOF = 0 then
      ∃ v, ratValue (p.format.unpack bits) = some v ∧ RoundsTo rd (IsNumber p.format) (bits % 2 = 0) exact v ∧
        (r.exc &&& excNX = 0 ↔ (v : ℝ) = exact)
    else
      r.exc = excOF ||| excNX ∧ (∀ y, IsNumber p.format y → |y| < |exact|) ∧
        ∃ negative : Bool, (negative = true ↔ exact < 0) ∧
          if overflowsToInf rd negative then p.format.unpack bits = .inf negative
          else ∃ v, ratValue (p.format.unpack bits) = some v ∧ 0 < (v : ℝ) * exact ∧
            ∀ y, IsNumber p.format y → |y| ≤ |(v : ℝ)|

/-- A number cut toward zero to an integer (49 R418). -/
def truncated (a : ℚ) : Int := if 0 ≤ a then ⌊a⌋ else ⌈a⌉

/-! What the operations give beside numbers (49 R412, R447). -/

/-- Whether a value is a NaN. -/
def Machine.FpVal.isNan : FpVal → Bool
  | .nan _ _ => true
  | .finite _ _ _ => false
  | .inf _ => false

/-- Whether a value is a signaling NaN (49 R447). -/
def Machine.FpVal.isSignaling : FpVal → Bool
  | .nan signaling _ => signaling
  | .finite _ _ _ => false
  | .inf _ => false

/-- The NaN operand that 49 R412 suggests as the result: rs2's, else rs1's. -/
def suggestedNan : FpVal → FpVal → Option Nat
  | _, .nan _ n => some n
  | .nan _ n, _ => some n
  | _, _ => none

/-- The result is the infinity with a sign, and the exceptions raised are these. -/
def GivesInf (p : Prec) (sign : Bool) (exc : BitVec 5) (r : FpResult) : Prop :=
  r.exc = exc ∧ ∃ b, r.bits = .exact b ∧ p.format.unpack b = .inf sign

/-- The result is the zero with a sign, and nothing is raised. -/
def GivesZero (p : Prec) (sign : Bool) (r : FpResult) : Prop :=
  r.exc = 0 ∧ ∃ b e, r.bits = .exact b ∧ p.format.unpack b = .finite sign 0 e

/-- The result is a quiet NaN, whatever FP_NUMERICS takes; where it takes the suggested one and there is one, that one (49
R412; log 21). -/
def GivesNan (p : Prec) (suggested : Option Nat) (exc : BitVec 5) (r : FpResult) : Prop :=
  r.exc = exc ∧ ∀ s : State,
    (∃ b, p.format.unpack (s.resolve p.format r.bits) = .nan false b) ∧
    ∀ n, suggested = some n → s.cfg.nanPolicy = .suggested → s.resolve p.format r.bits = n

/-- An invalid operation (49 R412): NV and a quiet NaN, the suggested one all ones but its sign. -/
def GivesInvalid (p : Prec) (r : FpResult) : Prop := GivesNan p (some (2 ^ (precWidth p - 1) - 1)) excNV r

/-- The result of an operation with a NaN operand (49 R412): a quiet NaN, the suggested one that operand made quiet; NV for a
signaling one. -/
def GivesOperandNan (p : Prec) (operand : Option Nat) (signaling : Bool) (r : FpResult) : Prop :=
  GivesNan p (operand.map (fun n => n ||| 2 ^ (p.format.fbits - 1))) (if signaling then excNV else 0) r

/-- An invalid conversion to an integer (49 R418; log 24): NV; the suggested integer of a number or an infinity is the largest
or the smallest one. -/
def GivesInvalidInteger (negative : Option Bool) (r : FpResult) : Prop :=
  r.exc = excNV ∧ r.bits = .invalidInteger negative ∧ ∀ (s : State) (neg : Bool), negative = some neg →
    s.cfg.nanPolicy = .suggested → s.resolve (Prec.format .single) r.bits = if neg then 0x80000000 else 0x7FFFFFFF

/-- FMOVs, FNEGs and FABSs (49 R427 to R429): the word copied, its sign bit complemented, its sign bit cleared. -/
def fpMoves : List ((RegNum → RegNum → Instr) × (Word → Word)) :=
  [(.fmovs, fun v => v), (.fnegs, fun v => BitVec.ofBool (!v.msb) ++ v.extractLsb' 0 31),
   (.fabss, fun v => 0#1 ++ v.extractLsb' 0 31)]

/-- The bits cexc shows when an IEEE exception traps (49 R412). -/
def shownExceptions (exc tem : BitVec 5) : BitVec 5 :=
  if exc.getLsbD 3 && tem.getLsbD 3 then 0x08 else if exc.getLsbD 2 && tem.getLsbD 2 then 0x04 else exc

/-- What an FPop does whose exceptions `exc` are not all masked (49 R412): fp_exception with ftt = 1, cexc showing them and the
rest of the FSR, its result and fcc included, unwritten; on an FPU with a queue it goes on, the trap deferred and the
instruction in the queue (60 R476(a); log 17). -/
def IeeeTrapped (s : State) (o : Out) (exc : BitVec 5) : Prop :=
  if s.cfg.fqPresent then
    ∃ t d, o = .next t ∧ t.fsr = { s.fsr with cexc := shownExceptions exc s.fsr.tem } ∧ t.fpPending = some 1 ∧
      t.fq = [d] ∧ Advanced s t ∧ Frame [.counters, .fsr, .fpQueue, .clock] s t
  else
    s.psr.et = true → s.pending = [] →
      ∃ t, o = .next t ∧
        TrapEntered { s with fsr := { s.fsr with ftt := 1, cexc := shownExceptions exc s.fsr.tem } } t 0x08

/-- An FPop gets to its register check, which its register numbers fail (49 R410, R411), with traps enabled. -/
structure Misnumbered (s : State) (regs : List (Prec × RegNum)) : Prop where
  ready : FpReady s []
  checked : s.cfg.fregAlignTraps = true
  misaligned : regsAligned regs = false
  enabled : s.psr.et = true
  closed : s.pending = []

/-- SAVE and RESTORE (46 R281, R282): the constructor, the new window from the current one and NWINDOWS, the trap where
that window is marked invalid. -/
def windowMoves : List (Make3 × (Nat → Nat → Nat) × Trap) :=
  [(.save, fun w n => (w + n - 1) % n, .windowOverflow), (.restore, fun w n => (w + 1) % n, .windowUnderflow)]

/-- A word shifted right by one place, a bit coming in at the top (45 R260). -/
def shiftedIn (top : Bool) (w : Word) : Word := BitVec.ofNat 32 (w.toNat / 2 + if top then 2 ^ 31 else 0)

/-- A word holds a PSR, field by field (10_state R30). -/
structure PsrWord (c : Config) (p : Psr) (w : Word) : Prop where
  impl : w.extractLsb' 28 4 = c.psrImpl
  ver : w.extractLsb' 24 4 = c.psrVer
  icc : w.getLsbD 23 = p.icc.n ∧ w.getLsbD 22 = p.icc.z ∧ w.getLsbD 21 = p.icc.v ∧ w.getLsbD 20 = p.icc.c
  reserved : w.extractLsb' 14 6 = 0
  ec : w.getLsbD 13 = p.ec
  ef : w.getLsbD 12 = p.ef
  pil : w.extractLsb' 8 4 = p.pil
  s : w.getLsbD 7 = p.s
  ps : w.getLsbD 6 = p.ps
  et : w.getLsbD 5 = p.et
  cwp : w.extractLsb' 0 5 = p.cwp

/-- The writable fields of the PSR come from a word (48 R388). -/
structure PsrFrom (w : Word) (p : Psr) : Prop where
  icc : p.icc.n = w.getLsbD 23 ∧ p.icc.z = w.getLsbD 22 ∧ p.icc.v = w.getLsbD 21 ∧ p.icc.c = w.getLsbD 20
  ec : p.ec = w.getLsbD 13
  ef : p.ef = w.getLsbD 12
  pil : p.pil = w.extractLsb' 8 4
  s : p.s = w.getLsbD 7
  ps : p.ps = w.getLsbD 6
  et : p.et = w.getLsbD 5
  cwp : p.cwp = w.extractLsb' 0 5

/-- A word holds an FSR, field by field (10_state R41). -/
structure FsrWord (c : Config) (qne : Bool) (r : Fsr) (w : Word) : Prop where
  rd : w.extractLsb' 30 2 = r.rd
  unused : w.extractLsb' 28 2 = 0 ∧ w.getLsbD 12 = false
  tem : w.extractLsb' 23 5 = r.tem
  ns : w.getLsbD 22 = r.ns
  reserved : w.extractLsb' 20 2 = 0
  ver : w.extractLsb' 17 3 = c.fsrVer
  ftt : w.extractLsb' 14 3 = r.ftt
  qne : w.getLsbD 13 = qne
  fcc : w.extractLsb' 10 2 = r.fcc
  aexc : w.extractLsb' 5 5 = r.aexc
  cexc : w.extractLsb' 0 5 = r.cexc

/-- The FSR LDFSR leaves (10_state R41): the loaded fields from the word, ftt kept. -/
structure FsrFrom (old : Fsr) (w : Word) (r : Fsr) : Prop where
  rd : r.rd = w.extractLsb' 30 2
  tem : r.tem = w.extractLsb' 23 5
  ns : r.ns = w.getLsbD 22
  ftt : r.ftt = old.ftt
  fcc : r.fcc = w.extractLsb' 10 2
  aexc : r.aexc = w.extractLsb' 5 5
  cexc : r.cexc = w.extractLsb' 0 5

/-- Instructions one after another, without fetching. -/
def execAll : List Instr → State → Out
  | [], s => .next s
  | i :: rest, s =>
    match exec i s with
    | .next t => execAll rest t
    | .fault r => .fault r
    | .refused r => .refused r

/-! ### Which instructions -/

/-- The privileged instructions (60 R491); of RDASR and WRASR, ASR_IMPL says. -/
def Instr.privileged : Instr → Bool
  | .ldsba _ _ _ | .ldsha _ _ _ | .lduba _ _ _ | .lduha _ _ _ | .lda _ _ _ | .ldda _ _ _ | .stba _ _ _ | .stha _ _ _
  | .sta _ _ _ | .stda _ _ _ | .stdfq _ _ _ | .stdcq _ _ _ | .ldstuba _ _ _ | .swapa _ _ _ | .rett _ _ | .rdpsr _
  | .rdwim _ | .rdtbr _ | .wrpsr _ _ | .wrwim _ _ | .wrtbr _ _ => true
  | _ => false

/-- An instruction reads or writes an ancillary state register (48 R382, R391). -/
def NamesAsr (i : Instr) (n : RegNum) : Prop := (∃ rd low, i = .rdasr rd ⟨n, low⟩) ∨ ∃ rs1 o, i = .wrasr n rs1 o

/-- An instruction is privileged on this machine (60 R491): by its name, or by the implemented ancillary register it names. -/
def NeedsSupervisor (s : State) (i : Instr) : Prop :=
  i.privileged = true ∨ ∃ n a, NamesAsr i n ∧ 16 ≤ n.toNat ∧ s.cfg.asrs.find? (fun b => b.num == n) = some a ∧
    a.privileged = true

/-- The floating-point operate instructions (49 R415 to R453). -/
def Instr.fpop : Instr → Bool
  | .fitos _ _ | .fitod _ _ | .fitoq _ _ | .fstoi _ _ | .fdtoi _ _ | .fqtoi _ _ | .fstod _ _ | .fstoq _ _ | .fdtos _ _
  | .fdtoq _ _ | .fqtos _ _ | .fqtod _ _ | .fmovs _ _ | .fnegs _ _ | .fabss _ _ | .fsqrts _ _ | .fsqrtd _ _
  | .fsqrtq _ _ | .fadds _ _ _ | .faddd _ _ _ | .faddq _ _ _ | .fsubs _ _ _ | .fsubd _ _ _ | .fsubq _ _ _
  | .fmuls _ _ _ | .fmuld _ _ _ | .fmulq _ _ _ | .fsmuld _ _ _ | .fdmulq _ _ _ | .fdivs _ _ _ | .fdivd _ _ _
  | .fdivq _ _ _ | .fcmps _ _ | .fcmpd _ _ | .fcmpq _ _ | .fcmpes _ _ | .fcmped _ _ | .fcmpeq _ _ => true
  | _ => false

/-- The instructions that need EF and an FPU (10_state R31). -/
def Instr.usesFpu : Instr → Bool
  | .ldf _ _ _ | .lddf _ _ _ | .ldfsr _ _ _ | .stf _ _ _ | .stdf _ _ _ | .stfsr _ _ _ | .stdfq _ _ _ | .fba _ _
  | .fbn _ _ | .fbu _ _ | .fbg _ _ | .fbug _ _ | .fbl _ _ | .fbul _ _ | .fblg _ _ | .fbne _ _ | .fbe _ _ | .fbue _ _
  | .fbge _ _ | .fbuge _ _ | .fble _ _ | .fbule _ _ | .fbo _ _ => true
  | i => i.fpop

/-- The instructions that need EC and a coprocessor (10_state R31). -/
def Instr.usesCp : Instr → Bool
  | .ldc _ _ _ | .lddc _ _ _ | .ldcsr _ _ _ | .stc _ _ _ | .stdc _ _ _ | .stcsr _ _ _ | .stdcq _ _ _ | .cba _ _
  | .cbn _ _ | .cb3 _ _ | .cb2 _ _ | .cb23 _ _ | .cb1 _ _ | .cb13 _ _ | .cb12 _ _ | .cb123 _ _ | .cb0 _ _ | .cb03 _ _
  | .cb02 _ _ | .cb023 _ _ | .cb01 _ _ | .cb013 _ _ | .cb012 _ _ | .cpop1 _ _ _ _ | .cpop2 _ _ _ _ => true
  | _ => false

/-- The instructions that write PSR.icc (10_state R29). -/
def Instr.writesIcc : Instr → Bool
  | .andcc _ _ _ | .andncc _ _ _ | .orcc _ _ _ | .orncc _ _ _ | .xorcc _ _ _ | .xnorcc _ _ _ | .addcc _ _ _
  | .addxcc _ _ _ | .subcc _ _ _ | .subxcc _ _ _ | .taddcc _ _ _ | .taddcctv _ _ _ | .tsubcc _ _ _ | .tsubcctv _ _ _
  | .mulscc _ _ _ | .umulcc _ _ _ | .smulcc _ _ _ | .udivcc _ _ _ | .sdivcc _ _ _ | .wrpsr _ _ => true
  | _ => false

/-- The instructions that write Y (10_state R38, R52). -/
def Instr.writesY : Instr → Bool
  | .mulscc _ _ _ | .umul _ _ _ | .umulcc _ _ _ | .smul _ _ _ | .smulcc _ _ _ | .udiv _ _ _ | .udivcc _ _ _
  | .sdiv _ _ _ | .sdivcc _ _ _ | .wry _ _ => true
  | _ => false

/-- The instructions that write memory (20 R73): the stores and the atomics. -/
def Instr.writesMemory : Instr → Bool
  | .stb _ _ _ | .sth _ _ _ | .st _ _ _ | .std _ _ _ | .stba _ _ _ | .stha _ _ _ | .sta _ _ _ | .stda _ _ _
  | .stf _ _ _ | .stdf _ _ _ | .stfsr _ _ _ | .stdfq _ _ _ | .stc _ _ _ | .stdc _ _ _ | .stcsr _ _ _ | .stdcq _ _ _
  | .ldstub _ _ _ | .ldstuba _ _ _ | .swap _ _ _ | .swapa _ _ _ => true
  | _ => false

/-- The instructions that write f registers (10_state R52): the floating-point loads and the FPops. -/
def Instr.writesF : Instr → Bool
  | .ldf _ _ _ | .lddf _ _ _ => true
  | i => i.fpop

/-- WRPSR. -/
def Instr.isWrpsr : Instr → Bool
  | .wrpsr _ _ => true
  | _ => false

/-- WRWIM. -/
def Instr.isWrwim : Instr → Bool
  | .wrwim _ _ => true
  | _ => false

/-- WRTBR. -/
def Instr.isWrtbr : Instr → Bool
  | .wrtbr _ _ => true
  | _ => false

/-- The accesses with an alignment, by width: the integer and atomic ordinary forms (20 R74). -/
def ordinaryAccesses : List (Make3 × Nat) :=
  [(.ldsh, 2), (.lduh, 2), (.ld, 4), (.ldd, 8), (.sth, 2), (.st, 4), (.std, 8), (.swap, 4)]

/-- The alternate forms. -/
def alternateAccesses : List (MakeAlt × Nat) :=
  [(.ldsha, 2), (.lduha, 2), (.lda, 4), (.ldda, 8), (.stha, 2), (.sta, 4), (.stda, 8), (.swapa, 4)]

/-- Every alternate-space instruction (20 R71). -/
def alternates : List MakeAlt :=
  [.ldsba, .ldsha, .lduba, .lduha, .lda, .ldda, .stba, .stha, .sta, .stda, .ldstuba, .swapa]

/-- How an integer load, store or atomic names what it accesses (40 R140, 41 R170, 42 R200): the ordinary form the data space,
the alternate form, in supervisor mode and with i = 0, the space of its ASI. `form` takes the one of the two constructors. -/
def Accesses (s : State) (rd rs1 : RegNum) (form : Make3 × MakeAlt → Instr) (asi : Asi) (ea : Word) : Prop :=
  (∃ o, form = (fun c => c.1 rd rs1 o) ∧ asi = s.dataAsi ∧ ea = s.effectiveAddress rs1 o) ∨
    (s.seenS = true ∧ ∃ rs2, form = (fun c => c.2 rd rs1 (.reg asi rs2)) ∧ ea = s.readR rs1 + s.readR rs2)

/-- The atomics: ordinary form, alternate form, bytes (42 R201 to R204). -/
def atomics : List (Make3 × MakeAlt × Nat) := [(.ldstub, .ldstuba, 1), (.swap, .swapa, 4)]

/-- A coprocessor is another but for the values that some of its registers took. -/
def CpRegsWritten (c d : Cp) (written : RegNum → Option Word) : Prop :=
  d.csr = c.csr ∧ d.cq = c.cq ∧ d.cc = c.cc ∧
    ∀ n : RegNum, (d.regs[n.toNat]?).getD 0 = (written n).getD ((c.regs[n.toNat]?).getD 0)

/-- The pair of rd, where rd is even, takes the two words that the coprocessor makes of a doubleword (40 R159). -/
def cpPairWords (rd : RegNum) (v : Dword) (n : RegNum) : Option Word :=
  if rd.toNat % 2 = 1 then none
  else if n = rd then some (Config.cpLoadPair rd v).1
  else if n = rd + 1 then some (Config.cpLoadPair rd v).2
  else none

/-- The floating-point forms; whether the form is privileged. -/
def fpAccesses : List (Make3 × Nat × Bool) :=
  [(.ldf, 4, false), (.lddf, 8, false), (.ldfsr, 4, false), (.stf, 4, false), (.stdf, 8, false), (.stfsr, 4, false),
   (.stdfq, 8, true)]

/-- The floating-point loads, and the stores that may raise sequence_error (60 R478; log 17): width, whether a store. -/
def fpSequenced : List (Make3 × Nat × Bool) :=
  [(.ldf, 4, false), (.lddf, 8, false), (.ldfsr, 4, false), (.stf, 4, true), (.stdf, 8, true), (.stfsr, 4, true)]

/-- The FPops and the FBfcc. -/
def IsFpBranchOrOp (i : Instr) : Prop := i.fpop = true ∨ ∃ e ∈ fccBranches, ∃ a disp22, i = e.1 a disp22

/-- The CPops and the CBccc. -/
def IsCpBranchOrOp (i : Instr) : Prop :=
  (∃ rd rs1 opc rs2, i = .cpop1 rd rs1 opc rs2 ∨ i = .cpop2 rd rs1 opc rs2) ∨
    ∃ e ∈ cccBranches, ∃ a disp22, i = e.1 a disp22

/-- The coprocessor forms; whether the form is privileged. -/
def cpAccesses : List (Make3 × Nat × Bool) :=
  [(.ldc, 4, false), (.lddc, 8, false), (.ldcsr, 4, false), (.stc, 4, false), (.stdc, 8, false), (.stcsr, 4, false),
   (.stdcq, 8, true)]

/-- STDCQ has a queue to store, or its want is the coprocessor's to report (41 R188; log 20). -/
def StdcqLegal (s : State) : Prop :=
  s.cfg.cpPresent = false ∨ s.cfg.cqPresent = true ∨ s.cfg.stdcqNoQueue = .cpException

/-- The tt code of each trap (60 R472). -/
def trapCodes : List (Trap × Nat) :=
  [(.dataStoreError, 0x2B), (.instructionAccessError, 0x21),
   (.rRegisterAccessError, 0x20), (.instructionAccessException, 0x01),
   (.privilegedInstruction, 0x03), (.illegalInstruction, 0x02), (.fpDisabled, 0x04), (.cpDisabled, 0x24),
   (.unimplementedFlush, 0x25), (.windowOverflow, 0x05), (.windowUnderflow, 0x06), (.memAddressNotAligned, 0x07),
   (.fpException, 0x08), (.cpException, 0x28), (.dataAccessError, 0x29), (.dataAccessException, 0x09),
   (.tagOverflow, 0x0A), (.divisionByZero, 0x2A)]

end Sys2Proof
end

