-- ==== Sys2Proof/Certificates/Slice0/Obligations.lean ====
section
/-! DEFINITION. The statements for the provers. Where a statement speaks of a state register it means the value an
instruction reads (`seenIcc`, `seenY`, `seenCwp`, …), which is the register itself outside a window of a write state register
instruction (70 R524), so that each holds in every state. `s.trap x` is the trap condition x (00_scope R15), which
`Obligations.TrapTaken` spells out. The window overlap that `RegWritten` speaks of is decision D4 (10_state R22). -/

open Sys2Proof Sys2Proof.Machine

/-! ### Reset, the invariant, decoding -/

/-- The values 10_state R53 and 70 R520 give (decision D12); every other register's value is the model's (log 1). -/
def Obligations.ResetState : Prop :=
  State.reset.pc = 0 ∧ State.reset.npc = 4 ∧ State.reset.psr.s = true ∧ State.reset.psr.et = false ∧
    State.reset.annul = false ∧ State.reset.errorMode = false ∧ State.reset.pending = [] ∧ State.reset.ibuf = [] ∧
    (∀ w, State.reset.readRW w 0 = 0) ∧
    (State.reset.psr.toWord State.reset.cfg).extractLsb' 14 6 = 0 ∧
    State.reset.wim &&& ~~~State.reset.windowMask = 0 ∧ ∀ k, State.reset.mem.read1 k = none

/-- The invariant holds after reset. -/
def Obligations.ResetInvariant : Prop := Inv State.reset

/-- 10_state R26 (PC and nPC are always word-aligned), R35 (CWP is always in 0..NWINDOWS-1), R36 (the bits of WIM at and
above NWINDOWS read as zero), R23 (G[0] is zero), and the canonical memory: every step keeps them. -/
def Obligations.StepKeepsInvariant : Prop := ∀ s t : State, Inv s → step s = .next t → Inv t

/-- Decoding an encoded instruction gives it back, for every instruction and every operand. -/
def Obligations.DecodeEncode : Prop := ∀ i : Instr, i.WellFormed → decode (encode i) = .instr i

/-- What the decoder answers is well-formed: the words 30 R116 gives to NOP, RDY, STBAR and WRY decode to nothing else. Every
other field is kept, unused ones too (95_test_vectors section 2.1; log 35). -/
def Obligations.DecodedIsWellFormed : Prop := ∀ (w : Word) (i : Instr), decode w = .instr i → i.WellFormed

/-- Words the spec writes out, one of each family. -/
def Obligations.DecodeWords : Prop :=
  decode 0x01000000 = .instr .nop ∧ decode 0x03048D15 = .instr (.sethi 1 0x048D15) ∧
    decode 0x860860FF = .instr (.and 3 1 (.imm 0xFF)) ∧ decode 0x8728601F = .instr (.sll 3 1 (.imm 31)) ∧
    decode 0x86004002 = .instr (.add 3 1 (.reg 2)) ∧ decode 0x87204002 = .instr (.mulscc 3 1 (.reg 2)) ∧
    decode 0x9DE3BFA0 = .instr (.save 14 14 (.imm (-96))) ∧ decode 0x30BFFFFE = .instr (.ba true (-2)) ∧
    decode 0x40000010 = .instr (.call 0x10) ∧ decode 0x91D02005 = .instr (.ta 0 (.imm 5)) ∧
    decode 0xC6C84142 = .instr (.ldsba 3 1 (.reg 0x0A 2)) ∧ decode 0xC4384000 = .instr (.std 2 1 (.reg 0)) ∧
    decode 0xC6786004 = .instr (.swap 3 1 (.imm 4)) ∧ decode 0x81886020 = .instr (.wrpsr 1 (.imm 0x20)) ∧
    decode 0x81A84A22 = .instr (.fcmps 1 2) ∧ decode 0x87B840A2 = .instr (.cpop2 3 1 5 2)

/-! ### One step -/

/-- A step runs the word it fetches (10_state R27): where nothing comes before the fetch, it is `execWord` of that word, and
where the word is that of an instruction implemented in hardware, `exec` of the instruction. The step adds nothing. -/
def Obligations.StepRunsDecoded : Prop :=
  (∀ (s : State) (w : Word), Fetches s w → step s = execWord w s) ∧
  (∀ (s : State) (w : Word) (i : Instr), Fetches s w → IsWordOf s w i → i.mnemonic ∉ s.cfg.unimplemented →
    step s = exec i s)

/-- What a fetch and a fetched word do that run no instruction: a fetch that the oracle answers traps (20 R84); unassigned
words trap (30 R117), unassigned FPops raise fp_exception with ftt = 3 (49 R454, decision D16); a word whose instruction reads
a register that the oracle answers traps (60 R471; log 36), and so does an unimplemented instruction (60 R477), a privileged
one in user mode, an RDASR or a WRASR of a privileged register among them, by privileged_instruction first (60 R474, R491; the
model's priorities, log 28). -/
def Obligations.FetchedWordsTrap : Prop :=
  (∀ (s : State) (x : Trap), BeforeFetch s → s.locate .fetch s.instrAsi s.pc 4 s.fetchSupervisor = .trap x →
    step s = .next (s.trap x)) ∧
  (∀ (s : State) (w : Word), decode w = .unassigned → execWord w s = .next (s.trap .illegalInstruction)) ∧
  (∀ (s : State) (w : Word), decode w = .unassignedFpop → FpReady s [] → s.psr.et = true → s.pending = [] →
    ∃ t, execWord w s = .next t ∧ TrapEntered { s with fsr := { s.fsr with ftt := 3 } } t 0x08) ∧
  (∀ (s : State) (w : Word) (i : Instr), decode w = .instr i → (s.cfg.unusedBits = .refuse → unusedFieldSet w i = false) →
    (∃ n ∈ sourceRegisters w, s.registerTrap n ≠ none) → execWord w s = .next (s.trap .rRegisterAccessError)) ∧
  (∀ (s : State) (w : Word) (i : Instr), IsWordOf s w i → i.mnemonic ∈ s.cfg.unimplemented → i.fpop = false →
    (NeedsSupervisor s i → s.seenS = true) → execWord w s = .next (s.trap .illegalInstruction)) ∧
  (∀ (s : State) (w : Word) (i : Instr), IsWordOf s w i → i.mnemonic ∈ s.cfg.unimplemented → NeedsSupervisor s i →
    s.seenS = false → execWord w s = .next (s.trap .privilegedInstruction)) ∧
  (∀ (s : State) (w : Word) (i : Instr), IsWordOf s w i → i.mnemonic ∈ s.cfg.unimplemented → i.fpop = true →
    FpReady s [] → s.psr.et = true → s.pending = [] →
    ∃ t, execWord w s = .next t ∧ TrapEntered { s with fsr := { s.fsr with ftt := 3 } } t 0x08)

/-- Reset (70 R520, decision D12), seen in error_mode too (log 25). That every other register keeps its value is log 37, that
no hazard window of the instructions before it stays open log 38. -/
def Obligations.StepResets : Prop :=
  ∀ s : State, s.resetReq = true →
    ∃ t, step s = .next t ∧ t.pc = 0 ∧ t.npc = 4 ∧ t.psr.s = true ∧ t.psr.et = false ∧ t.annul = false ∧
      t.errorMode = false ∧ t.pending = [] ∧ t.ibuf = [] ∧ t.ldfsrLeft = 0 ∧ t.afterFpop2 = false ∧
      t.afterJmpl = false ∧ t.fetchDoubt = false ∧ t.resetReq = false ∧ t.irl = s.irl ∧
      t.storeError = s.storeError ∧ t.cpExc = s.cpExc ∧
      Frame [.counters, .supervisor, .et, .annul, .errorMode, .inputs, .fetchSpace, .clock] s t

/-- error_mode: no step is enabled but a reset (10_state R27, R50; log 26), and outside a window of a write state register
instruction it is entered with ET = 0 only, the PSR unchanged (60 R484, decision D11). -/
def Obligations.ErrorMode : Prop :=
  (∀ s : State, s.errorMode = true → s.resetReq = false → step s = .fault .errorMode) ∧
  (∀ s t : State, s.pending = [] → s.errorMode = false → step s = .next t → t.errorMode = true →
    s.psr.et = false ∧ t.psr = s.psr)

/-- The asynchronous traps. An interrupt request (60 R486, decision D13) is taken exactly when ET = 1 and the level is 15 or
above PIL; it enters the trap 0x10 + IRL. A store failure reported later (60 R476(c)) enters data_store_error, or error_mode
with traps disabled, and is consumed (log 15). Both discard an annulled instruction (60 R480 step 0). -/
def Obligations.AsynchronousTraps : Prop :=
  (∀ s : State, s.pending = [] →
    (s.interruptTaken = true ↔ s.psr.et = true ∧ s.irl ≠ 0 ∧ (s.irl = 15 ∨ s.psr.pil < s.irl))) ∧
  (∀ s : State, s.resetReq = false → s.errorMode = false → s.storeError = false → s.pending = [] →
    s.interruptTaken = true → ∃ t, step s = .next t ∧ TrapEntered (pastAnnulled s) t (0x10 + s.irl.setWidth 8)) ∧
  (∀ s : State, s.resetReq = false → s.errorMode = false → s.storeError = true →
    (s.psr.et = true → s.pending = [] →
      ∃ t, step s = .next t ∧ TrapEntered { pastAnnulled s with storeError := false } t 0x2B) ∧
    (s.seenEt = false →
      ∃ t, step s = .next t ∧ Halted { pastAnnulled s with storeError := false } t .dataStoreError))

/-- An annulled instruction is skipped, whatever the word at PC is (10_state R27, decision D5). -/
def Obligations.AnnulledIsSkipped : Prop :=
  ∀ s : State, s.resetReq = false → s.errorMode = false → s.storeError = false → s.interruptTaken = false →
    s.annul = true →
    ∃ t, step s = .next t ∧ t.annul = false ∧ Advanced s t ∧ Frame [.counters, .annul, .clock] s t

/-! ### Traps -/

/-- A trap condition: trap entry with traps enabled (60 R480, R481, decision D10), error_mode with traps disabled (60 R484,
decision D11); and the tt codes (60 R472, decision D9). -/
def Obligations.TrapTaken : Prop :=
  (∀ (s : State) (x : Trap), s.psr.et = true → s.pending = [] → TrapEntered s (s.trap x) x.tt) ∧
  (∀ (s : State) (x : Trap), s.seenEt = false → Halted s (s.trap x) x) ∧
  (∀ e ∈ trapCodes, e.1.tt.toNat = e.2) ∧
  (∀ n : BitVec 7, (Trap.trapInstruction n).tt.toNat = 128 + n.toNat) ∧
  (∀ n : BitVec 4, (Trap.interrupt n).tt.toNat = 16 + n.toNat)

/-- A trap in the window of a write state register instruction (70 R525): S and CWP are the new or an old value, TBA is the
new or an old value; in the handler a read state register instruction finds the new values (48 R392, statements 4 to 6), and
what reads or writes a register without being one still finds the window open (statements 1 and 2), but for the fields of the
PSR that the trap wrote (log 7). -/
def Obligations.TrapInWriteWindow : Prop :=
  ∀ (s : State) (x : Trap), s.seenEt = true →
    ∃ (ps : Bool) (c : BitVec 5) (tba : BitVec 20),
      (ps = s.psr.s ∨ ∃ p ∈ s.pending, p.reg = .psr ∧ p.handled = false ∧ ps = p.old.getLsbD 7) ∧
      (c = s.psr.cwp ∨ ∃ p ∈ s.pending, p.reg = .psr ∧ p.handled = false ∧ c = p.old.extractLsb' 0 5) ∧
      (tba = s.tbr.tba ∨ ∃ p ∈ s.pending, p.reg = .tbr ∧ tba = p.old.extractLsb' 12 20) ∧
      (s.trap x).psr.ps = ps ∧ (s.trap x).psr.s = true ∧ (s.trap x).psr.et = false ∧
      (s.trap x).pc = tba ++ x.tt ++ 0#4 ∧ (s.trap x).npc = (s.trap x).pc + 4 ∧
      (∀ u m, (s.trap x).readRW u m =
        if sameReg s u m (s.prevWindow c) 18 then s.npc
        else if sameReg s u m (s.prevWindow c) 17 then s.pc else s.readRW u m) ∧
      (s.trap x).tbr.tba = s.tbr.tba ∧ (s.trap x).tbr.tt = x.tt ∧
      (s.trap x).settled.seenPsr = (s.trap x).psr ∧ (s.trap x).settled.seenWim = (s.trap x).wim ∧
      (s.trap x).settled.seenTba = (s.trap x).tbr.tba ∧ (s.trap x).settled.seenY = (s.trap x).y ∧
      (∀ n, (s.trap x).settled.seenAsr n = (s.trap x).asrValue n) ∧
      (∀ r, (s.trap x).inWindow r = s.inWindow r) ∧ (∀ r, r ≠ .psr → (s.trap x).openMask r = s.openMask r) ∧
      (∀ field ∈ psrFields, (s.trap x).psrOpen field =
        (s.psrOpen field && decide (field ∉ [sMask, psMask, etMask, cwpMask])))

/-! ### Registers, memory, operands -/

/-- Window overlap (10_state R22, decision D4): the ins of a window are the outs of the next, its locals are its own, and the
globals are the same in every window. -/
def Obligations.WindowOverlap : Prop :=
  ∀ (s : State) (w : BitVec 5), w.toNat < s.nWindows →
    (∀ n : RegNum, 24 ≤ n.toNat → s.readRW w n = s.readRW (BitVec.ofNat 5 ((w.toNat + 1) % s.nWindows)) (n - 16)) ∧
    (∀ (v : BitVec 5) (m n : RegNum), v.toNat < s.nWindows → 16 ≤ m.toNat → m.toNat < 24 →
      sameReg s w m v n = true → w = v ∧ m = n) ∧
    (∀ (v : BitVec 5) (n : RegNum), n.toNat < 8 → s.readRW w n = s.readRW v n)

/-- Memories in the canonical form that read alike are the same data. -/
def Obligations.CanonicalMemory : Prop :=
  ∀ m n : Memory, m.wf = true → n.wf = true → (∀ k, m.read1 k = n.read1 k) → m = n

/-- The operand forms (00_scope R13, 43 R225, 47 R354): a register or a sign-extended immediate, the sum modulo 2^32, the
five low bits of a shift count, the seven low bits of a trap number. -/
def Obligations.OperandForms : Prop :=
  ∀ s : State,
    (∀ n, s.op2val (.reg n) = s.readRW s.seenCwp n) ∧ (∀ i, (s.op2val (.imm i)).toInt = i.toInt) ∧
    (∀ n o, (s.effectiveAddress n o).toNat = ((s.readR n).toNat + (s.op2val o).toNat) % 2 ^ 32) ∧
    (∀ n, s.shiftCount (.reg n) = (s.readR n).toNat % 32) ∧ (∀ i, s.shiftCount (.imm i) = i.toNat) ∧
    (∀ n m, (s.trapNumber n (.reg m)).toNat = ((s.readR n).toNat + (s.readR m).toNat) % 128) ∧
    (∀ n i, (s.trapNumber n (.imm i)).toNat = ((s.readR n).toNat + i.toNat) % 128)

/-! ### SETHI, NOP, logical instructions, shifts -/

/-- NOP (43 R211) changes no state but PC and nPC (and what counts instructions). -/
def Obligations.NopAdvances : Prop :=
  ∀ s : State, ∃ t, exec .nop s = .next t ∧ Advanced s t ∧ Frame [.counters, .clock] s t

/-- SETHI (43 R210). -/
def Obligations.SethiResult : Prop :=
  ∀ (s : State) (rd : RegNum) (imm22 : BitVec 22),
    ∃ t, exec (.sethi rd imm22) s = .next t ∧ RegWritten s t s.seenCwp rd (BitVec.ofNat 32 (imm22.toNat * 2 ^ 10)) ∧
      Advanced s t ∧ Frame [.counters, .intRegs, .clock] s t

/-- AND, ANDN, OR, ORN, XOR, XNOR (43 R213, R215, R217, R219, R221, R223). -/
def Obligations.LogicalResults : Prop :=
  ∀ e ∈ logicals, ∀ (s : State) (rd rs1 : RegNum) (o : Operand2),
    ∃ t, exec (e.1 rd rs1 o) s = .next t ∧ RegWritten s t s.seenCwp rd (e.2.2 (s.readR rs1) (s.op2val o)) ∧
      Advanced s t ∧ Frame [.counters, .intRegs, .clock] s t

/-- SLL, SRL, SRA (43 R226 to R228). -/
def Obligations.ShiftResults : Prop :=
  ∀ e ∈ shifts, ∀ (s : State) (rd rs1 : RegNum) (c : ShiftCount),
    ∃ t v, exec (e.1 rd rs1 c) s = .next t ∧ e.2 (s.readR rs1) (s.shiftCount c) v ∧ RegWritten s t s.seenCwp rd v ∧
      Advanced s t ∧ Frame [.counters, .intRegs, .clock] s t

/-! ### Add, subtract, tagged arithmetic -/

/-- ADD, ADDX, SUB, SUBX (44 R243, R245, R250, R252). -/
def Obligations.SumResults : Prop :=
  ∀ e ∈ sums, ∀ (s : State) (rd rs1 : RegNum) (o : Operand2),
    ∃ t, exec (e.1 rd rs1 o) s = .next t ∧
      RegWritten s t s.seenCwp rd (e.2.2.1.word (s.readR rs1) (s.op2val o) (e.2.2.2 && s.seenIcc.c)) ∧
      Advanced s t ∧ Frame [.counters, .intRegs, .clock] s t

/-- The cc forms: ANDcc, ANDNcc, ORcc, ORNcc, XORcc, XNORcc, whose condition codes are decision D28 (43 R212), and ADDcc,
ADDXcc, SUBcc, SUBXcc, whose V is the source's and whose N, Z and C are decision D28 (44 R240, R241). -/
def Obligations.ConditionCodes : Prop :=
  (∀ e ∈ logicals, ∀ (s : State) (rd rs1 : RegNum) (o : Operand2),
    ∃ t, exec (e.2.1 rd rs1 o) s = .next t ∧ RegWritten s t s.seenCwp rd (e.2.2 (s.readR rs1) (s.op2val o)) ∧
      IccWritten s t (plainIcc (e.2.2 (s.readR rs1) (s.op2val o)) false) ∧
      Advanced s t ∧ Frame [.counters, .intRegs, .icc, .clock] s t) ∧
  (∀ e ∈ sums, ∀ (s : State) (rd rs1 : RegNum) (o : Operand2),
    ∃ t, exec (e.2.1 rd rs1 o) s = .next t ∧
      RegWritten s t s.seenCwp rd (e.2.2.1.word (s.readR rs1) (s.op2val o) (e.2.2.2 && s.seenIcc.c)) ∧
      IccWritten s t (e.2.2.1.icc (s.readR rs1) (s.op2val o) (e.2.2.2 && s.seenIcc.c)
        (e.2.2.1.overflows (s.readR rs1) (s.op2val o) (e.2.2.2 && s.seenIcc.c))) ∧
      Advanced s t ∧ Frame [.counters, .intRegs, .icc, .clock] s t)

/-- TADDcc, TSUBcc; TADDccTV and TSUBccTV, which trap on tag overflow (44 R247 to R249, R254 to R256; N, Z and C are decision
D28). -/
def Obligations.TaggedResults : Prop :=
  ∀ e ∈ taggeds, ∀ (s : State) (rd rs1 : RegNum) (o : Operand2),
    (∃ t, exec (e.1 rd rs1 o) s = .next t ∧
      RegWritten s t s.seenCwp rd (e.2.2.word (s.readR rs1) (s.op2val o) false) ∧
      IccWritten s t (e.2.2.icc (s.readR rs1) (s.op2val o) false (e.2.2.tagOverflow (s.readR rs1) (s.op2val o))) ∧
      Advanced s t ∧ Frame [.counters, .intRegs, .icc, .clock] s t) ∧
    (if e.2.2.tagOverflow (s.readR rs1) (s.op2val o) then exec (e.2.1 rd rs1 o) s = .next (s.trap .tagOverflow)
     else ∃ t, exec (e.2.1 rd rs1 o) s = .next t ∧
      RegWritten s t s.seenCwp rd (e.2.2.word (s.readR rs1) (s.op2val o) false) ∧
      IccWritten s t (e.2.2.icc (s.readR rs1) (s.op2val o) false false) ∧
      Advanced s t ∧ Frame [.counters, .intRegs, .icc, .clock] s t)

/-! ### Multiply and divide -/

/-- MULScc (45 R260): the shifted operand, the addend by the low bit of Y, the sum, its condition codes (N, Z and C by
decision D28), and Y. -/
def Obligations.MultiplyStep : Prop :=
  ∀ (s : State) (rd rs1 : RegNum) (o : Operand2),
    let a := shiftedIn (s.seenIcc.n != s.seenIcc.v) (s.readR rs1)
    let b := if s.seenY.toNat % 2 = 1 then s.op2val o else 0
    ∃ t, exec (.mulscc rd rs1 o) s = .next t ∧ RegWritten s t s.seenCwp rd (Sum.add.word a b false) ∧
      IccWritten s t (Sum.add.icc a b false (Sum.add.overflows a b false)) ∧
      YWritten s t (shiftedIn ((s.readR rs1).toNat % 2 == 1) s.seenY) ∧
      Advanced s t ∧ Frame [.counters, .intRegs, .icc, .y, .clock] s t

/-- UMUL, SMUL, UMULcc, SMULcc (45 R263 to R266): the 64-bit product over Y and r[rd]; the cc forms set N and Z from the
low word and clear V and C. -/
def Obligations.MultiplyResults : Prop :=
  ∀ e ∈ multiplies, ∀ (s : State) (rd rs1 : RegNum) (o : Operand2),
    let p := value e.2.2 (s.readR rs1) * value e.2.2 (s.op2val o)
    (∃ t, exec (e.1 rd rs1 o) s = .next t ∧ RegWritten s t s.seenCwp rd (BitVec.ofInt 32 p) ∧
      YWritten s t (BitVec.ofInt 32 (p / 2 ^ 32)) ∧ Advanced s t ∧ Frame [.counters, .intRegs, .y, .clock] s t) ∧
    (∃ t, exec (e.2.1 rd rs1 o) s = .next t ∧ RegWritten s t s.seenCwp rd (BitVec.ofInt 32 p) ∧
      YWritten s t (BitVec.ofInt 32 (p / 2 ^ 32)) ∧ IccWritten s t (plainIcc (BitVec.ofInt 32 p) false) ∧
      Advanced s t ∧ Frame [.counters, .intRegs, .icc, .y, .clock] s t)

/-- UDIV, SDIV, UDIVcc, SDIVcc (45 R267 to R271): a zero divisor traps (the reading is the spec's), else the quotient of
Y :: r[rs1], held to the range of the word; V is the overflow by SDIV_NEG_OVF (decision D21); Y afterwards is any value
(log 13). -/
def Obligations.DivideResults : Prop :=
  ∀ e ∈ divides, ∀ (s : State) (rd rs1 : RegNum) (o : Operand2),
    let n := dividend e.2.2 s.seenY (s.readR rs1)
    let d := value e.2.2 (s.op2val o)
    let q := BitVec.ofInt 32 (heldQuotient e.2.2 n d)
    if s.op2val o = 0 then
      exec (e.1 rd rs1 o) s = .next (s.trap .divisionByZero) ∧
        exec (e.2.1 rd rs1 o) s = .next (s.trap .divisionByZero)
    else
      (∃ t, exec (e.1 rd rs1 o) s = .next t ∧ RegWritten s t s.seenCwp rd q ∧ Advanced s t ∧
        Frame [.counters, .intRegs, .y, .clock] s t) ∧
      (∃ t, exec (e.2.1 rd rs1 o) s = .next t ∧ RegWritten s t s.seenCwp rd q ∧
        IccWritten s t (plainIcc q (divideOverflows s.cfg.sdivNegOvf e.2.2 n d)) ∧ Advanced s t ∧
        Frame [.counters, .intRegs, .icc, .y, .clock] s t)

/-! ### Windows and control transfers -/

/-- SAVE and RESTORE (46 R281, R282): the trap where the new window is marked invalid, else the sum of the old window's
operands in the new window's r[rd], and CWP. -/
def Obligations.WindowMoves : Prop :=
  ∀ e ∈ windowMoves, ∀ (s : State) (rd rs1 : RegNum) (o : Operand2),
    let w := BitVec.ofNat 5 (e.2.1 s.seenCwp.toNat s.nWindows)
    if s.seenWim.getLsbD w.toNat then exec (e.1 rd rs1 o) s = .next (s.trap e.2.2)
    else ∃ t, exec (e.1 rd rs1 o) s = .next t ∧ RegWritten s t w rd (s.readR rs1 + s.op2val o) ∧
      (s.inWindow .psr = false → t.psr.cwp = w) ∧ Advanced s t ∧ Frame [.counters, .intRegs, .cwp, .clock] s t

/-- The sixteen Bicc (46 R285 to R300). An instruction is executed where it is not annulled. -/
def Obligations.IccBranches : Prop :=
  ∀ e ∈ iccBranches, ∀ (s : State) (a : Bool) (disp22 : BitVec 22), s.annul = false →
    ∃ t, exec (e.1 a disp22) s = .next t ∧ Branched s t (e.2 s.seenIcc) a disp22

/-- The sixteen FBfcc (46 R301 to R318): with floating point enabled and the FPU in no exception state the branch is on fcc;
right after an FPop2 the decision is open (70 R527), and within three instructions of an LDFSR the fcc seen is open (70 R528;
the model's reading of both is log 9). The sixteen CBccc (46 R319 to R336): with the coprocessor enabled and silent, on
bp_CP_cc. -/
def Obligations.UnitBranches : Prop :=
  (∀ e ∈ fccBranches, ∀ (s : State) (a : Bool) (disp22 : BitVec 22),
    s.annul = false → s.seenEf = true → s.cfg.fpuPresent = true → FpQuiet s →
    ∃ t, exec (e.1 a disp22) s = .next t ∧
      (if s.afterFpop2 then ∃ d, Branched s t d a disp22
       else if s.ldfsrLeft = 0 then Branched s t (e.2 s.fsr.fcc) a disp22
       else ∃ c, Branched s t (e.2 c) a disp22)) ∧
  (∀ e ∈ cccBranches, ∀ (s : State) (a : Bool) (disp22 : BitVec 22),
    s.annul = false → s.seenEc = true → s.cfg.cpPresent = true → s.cpExc = false →
    ∃ t, exec (e.1 a disp22) s = .next t ∧ Branched s t (e.2 s.cp.cc) a disp22)

/-- CALL and JMPL (47 R350, R351): the link register takes PC, the transfer is delayed; JMPL's target must be a multiple of
four. -/
def Obligations.LinkedTransfers : Prop :=
  (∀ (s : State) (disp30 : BitVec 30),
    ∃ t, exec (.call disp30) s = .next t ∧ RegWritten s t s.seenCwp 15 s.pc ∧
      Transferred s t (s.pc + BitVec.ofNat 32 (4 * disp30.toNat)) ∧ Frame [.counters, .intRegs, .clock] s t) ∧
  (∀ (s : State) (rd rs1 : RegNum) (o : Operand2),
    if (s.effectiveAddress rs1 o).toNat % 4 = 0 then
      ∃ t, exec (.jmpl rd rs1 o) s = .next t ∧ RegWritten s t s.seenCwp rd s.pc ∧
        Transferred s t (s.effectiveAddress rs1 o) ∧ Frame [.counters, .intRegs, .clock] s t
    else exec (.jmpl rd rs1 o) s = .next (s.trap .memAddressNotAligned))

/-- RETT (47 R352, R353): the rows of R353's table. The target is computed in the window before it (decision D34), the tt
codes are decision D9; after a RETT that follows no JMPL the space of the next fetches is open (70 R530; log 10). A RETT out
of the only handler of a trap in an open window has read state register instructions find that window open again (48 R392,
statements 2 and 6; log 7). -/
def Obligations.ReturnFromTrap : Prop :=
  ∀ (s : State) (rs1 : RegNum) (o : Operand2),
    let w := BitVec.ofNat 5 ((s.seenCwp.toNat + 1) % s.nWindows)
    let target := s.effectiveAddress rs1 o
    if s.seenEt then
      exec (.rett rs1 o) s = .next (s.trap (if s.seenS then .illegalInstruction else .privilegedInstruction))
    else if s.seenS = false then ∃ t, exec (.rett rs1 o) s = .next t ∧ Halted s t .privilegedInstruction
    else if s.seenWim.getLsbD w.toNat then ∃ t, exec (.rett rs1 o) s = .next t ∧ Halted s t .windowUnderflow
    else if target.toNat % 4 ≠ 0 then ∃ t, exec (.rett rs1 o) s = .next t ∧ Halted s t .memAddressNotAligned
    else ∃ t, exec (.rett rs1 o) s = .next t ∧ Transferred s t target ∧
      (s.inWindow .psr = false → t.psr.cwp = w ∧ t.psr.s = s.seenPs ∧ t.psr.et = true) ∧
      ((∀ p ∈ s.pending, p.handlers ≤ 1) → t.settled = t) ∧
      t.fetchDoubt = !s.afterJmpl ∧ Frame [.counters, .cwp, .supervisor, .et, .fetchSpace, .clock] s t

/-- The sixteen Ticc (47 R356 to R371): trap_instruction with tt = 128 + n where the test holds, else like a NOP. -/
def Obligations.IccTraps : Prop :=
  ∀ e ∈ iccTraps, ∀ (s : State) (rs1 : RegNum) (o : TrapOperand),
    if e.2 s.seenIcc then
      exec (e.1 rs1 o) s = .next (s.trap (.trapInstruction (s.trapNumber rs1 o))) ∧
        (Trap.trapInstruction (s.trapNumber rs1 o)).tt.toNat = 128 + (s.trapNumber rs1 o).toNat
    else ∃ t, exec (e.1 rs1 o) s = .next t ∧ Advanced s t ∧ Frame [.counters, .clock] s t

/-! ### State registers -/

/-- RDY (48 R381). -/
def Obligations.RdyReads : Prop :=
  ∀ (s : State) (rd : RegNum),
    ∃ t, exec (.rdy rd) s = .next t ∧ RegWritten s t s.seenCwp rd s.settled.seenY ∧ Advanced s t ∧
      Frame [.counters, .intRegs, .clock] s t

/-- RDPSR, RDWIM, RDTBR in supervisor mode (48 R383 to R385); the positions of the fields are decision D7. The S that RDPSR
reads is 1, in every window. -/
def Obligations.StateRegistersRead : Prop :=
  ∀ (s : State) (rd : RegNum), s.seenS = true →
    (∃ t v, exec (.rdpsr rd) s = .next t ∧ PsrWord s.cfg { s.settled.seenPsr with s := true } v ∧
      RegWritten s t s.seenCwp rd v ∧ Advanced s t ∧ Frame [.counters, .intRegs, .clock] s t) ∧
    (∃ t, exec (.rdwim rd) s = .next t ∧ RegWritten s t s.seenCwp rd s.settled.seenWim ∧ Advanced s t ∧
      Frame [.counters, .intRegs, .clock] s t) ∧
    (∃ t, exec (.rdtbr rd) s = .next t ∧ RegWritten s t s.seenCwp rd (s.settled.seenTba ++ s.tbr.tt ++ 0#4) ∧
      Advanced s t ∧ Frame [.counters, .intRegs, .clock] s t)

/-- WRY, and in supervisor mode WRWIM, WRTBR, WRPSR (48 R386 to R390): the exclusive or of the operands, written at once
(48 R392, log 6). The fields' positions, and that WIM keeps only the bits of implemented windows, are decision D7. A CWP of no
window traps. -/
def Obligations.StateRegistersWritten : Prop :=
  ∀ (s : State) (rs1 : RegNum) (o : Operand2),
    let v := s.readR rs1 ^^^ s.op2val o
    (∃ t, exec (.wry rs1 o) s = .next t ∧ t.y = v ∧ Advanced s t ∧ Frame [.counters, .y, .clock] s t) ∧
    (s.seenS = true →
      (∃ t, exec (.wrwim rs1 o) s = .next t ∧
        (∀ w, t.wim.getLsbD w = (v.getLsbD w && decide (w < s.nWindows))) ∧ Advanced s t ∧
        Frame [.counters, .wim, .clock] s t) ∧
      (∃ t, exec (.wrtbr rs1 o) s = .next t ∧ t.tbr.tba = v.extractLsb' 12 20 ∧ Advanced s t ∧
        Frame [.counters, .tba, .clock] s t) ∧
      (if v.toNat % 32 < s.nWindows then
        ∃ t, exec (.wrpsr rs1 o) s = .next t ∧ PsrFrom v t.psr ∧ Advanced s t ∧
          Frame [.counters, .icc, .enables, .supervisor, .previous, .et, .cwp, .clock] s t
      else exec (.wrpsr rs1 o) s = .next (s.trap .illegalInstruction)))

/-- A write state register instruction, three NOPs, then the read: the value written (48 R392: the write has taken effect after
the third instruction). -/
def Obligations.WrittenIsReadLater : Prop :=
  ∀ (s : State) (rs1 rd : RegNum) (o : Operand2), s.pending = [] →
    let v := s.readR rs1 ^^^ s.op2val o
    (∃ t, execAll [.wry rs1 o, .nop, .nop, .nop, .rdy rd] s = .next t ∧ RegWritten s t s.psr.cwp rd v) ∧
    (s.psr.s = true →
      (∃ t, execAll [.wrwim rs1 o, .nop, .nop, .nop, .rdwim rd] s = .next t ∧
        RegWritten s t s.psr.cwp rd (v &&& BitVec.ofNat 32 (2 ^ s.nWindows - 1))) ∧
      (∃ t, execAll [.wrtbr rs1 o, .nop, .nop, .nop, .rdtbr rd] s = .next t ∧
        RegWritten s t s.psr.cwp rd (v.extractLsb' 12 20 ++ s.tbr.tt ++ 0#4)) ∧
      (v.toNat % 32 < s.nWindows → v.getLsbD 7 = true →
        ∃ t p, execAll [.wrpsr rs1 o, .nop, .nop, .nop, .rdpsr rd] s = .next t ∧ PsrFrom v t.psr ∧
          PsrWord s.cfg t.psr p ∧ RegWritten s t (v.extractLsb' 0 5) rd p))

/-- RDASR and WRASR (48 R382, R391). An implemented ASR 16 to 31 is read and written by its functions, which are given the
fields of the word whose interpretation is the implementation's (log 12), after its privilege check; an unimplemented one
traps (decision D24); a reserved number completes with an undefined value in r[rd], in that register and nowhere else (log
11). -/
def Obligations.AncillaryRegisters : Prop :=
  ∀ (s : State) (rd rs1 : RegNum) (low : BitVec 14) (o : AsrOperand),
    (rs1.toNat < 16 → ∃ t v, exec (.rdasr rd ⟨rs1, low⟩) s = .next t ∧ RegWritten s t s.seenCwp rd v ∧ Advanced s t ∧
      Frame [.counters, .intRegs, .clock] s t) ∧
    (rd.toNat < 16 → ∃ t, exec (.wrasr rd rs1 o) s = .next t ∧ (∀ n, n ≠ rd → t.asrValue n = s.asrValue n) ∧
      Advanced s t ∧ Frame [.counters, .asr, .clock] s t) ∧
    (16 ≤ rs1.toNat →
      match s.cfg.asrs.find? (fun a => a.num == rs1) with
      | none => exec (.rdasr rd ⟨rs1, low⟩) s = .next (s.trap .illegalInstruction)
      | some a =>
        if a.privileged = true ∧ s.seenS = false then
          exec (.rdasr rd ⟨rs1, low⟩) s = .next (s.trap .privilegedInstruction)
        else ∃ t, exec (.rdasr rd ⟨rs1, low⟩) s = .next t ∧
          RegWritten s t s.seenCwp rd (Config.asrRead rs1 (s.settled.seenAsr rs1) rd low) ∧ Advanced s t ∧
          Frame [.counters, .intRegs, .clock] s t) ∧
    (16 ≤ rd.toNat →
      match s.cfg.asrs.find? (fun a => a.num == rd) with
      | none => exec (.wrasr rd rs1 o) s = .next (s.trap .illegalInstruction)
      | some a =>
        if a.privileged = true ∧ s.seenS = false then
          exec (.wrasr rd rs1 o) s = .next (s.trap .privilegedInstruction)
        else ∃ t, exec (.wrasr rd rs1 o) s = .next t ∧
          t.asrValue rd = Config.asrWrite rd (s.readR rs1) (s.asrOp2val o) (rs1 ++ o.bits) ∧
          (∀ n, n ≠ rd → t.asrValue n = s.asrValue n) ∧ Advanced s t ∧ Frame [.counters, .asr, .clock] s t)

/-- STBAR is `advance` (48 R396: every store has completed, log 31), UNIMP traps whatever its fields hold (48 R397, decision
D15), FLUSH executes or traps by FLUSH_TRAP (48 R398, decision D23), and after a FLUSH and five NOPs no stale copy of its
doubleword is left in the instruction buffer (20 R88; the buffer is log 27). -/
def Obligations.BarrierUnimpFlush : Prop :=
  (∀ s : State, ∃ t, exec .stbar s = .next t ∧ Advanced s t ∧ Frame [.counters, .clock] s t) ∧
  (∀ (s : State) (r : BitVec 5) (c : BitVec 22), exec (.unimp r c) s = .next (s.trap .illegalInstruction)) ∧
  (∀ (s : State) (rs1 : RegNum) (o : Operand2),
    match s.cfg.flushMode with
    | .executes => ∃ t, exec (.flush rs1 o) s = .next t ∧ Advanced s t ∧ Frame [.counters, .clock] s t
    | .unimplementedFlush => exec (.flush rs1 o) s = .next (s.trap .unimplementedFlush)
    | .illegalInstruction => exec (.flush rs1 o) s = .next (s.trap .illegalInstruction)) ∧
  (∀ (s : State) (rs1 : RegNum) (o : Operand2), s.cfg.flushMode = .executes → s.pending = [] → s.fetchDoubt = false →
    ∃ t, execAll [.flush rs1 o, .nop, .nop, .nop, .nop, .nop] s = .next t ∧
      ∀ b, s.bankOf (if s.psr.s then 0x09 else 0x08) = some b →
        ∀ c ∈ t.ibuf, c.key ≠ Memory.key b (s.effectiveAddress rs1 o) / 8 * 8)

/-! ### Loads, stores, atomics -/

/-- LDSB, LDSH, LDUB, LDUH, LD and their alternate forms (40 R140 to R151): the bytes at the address, most significant
first (decision D6), extended to a word. -/
def Obligations.IntegerLoads : Prop :=
  ∀ e ∈ loads, ∀ (s : State) (rd rs1 : RegNum) (k v : Nat), v < 256 ^ e.2.2.1 → BytesAt s.mem k e.2.2.1 v →
    (∀ o : Operand2, (s.effectiveAddress rs1 o).toNat % e.2.2.1 = 0 →
      s.locate .read s.dataAsi (s.effectiveAddress rs1 o) e.2.2.1 s.seenS = .found k →
      ∃ t, exec (e.1 rd rs1 o) s = .next t ∧ RegWritten s t s.seenCwp rd (e.2.2.2 v) ∧ Advanced s t ∧
        Frame [.counters, .intRegs, .clock] s t) ∧
    (∀ (asi : Asi) (rs2 : RegNum), s.seenS = true → (s.readR rs1 + s.readR rs2).toNat % e.2.2.1 = 0 →
      s.locate .read asi (s.readR rs1 + s.readR rs2) e.2.2.1 s.seenS = .found k →
      ∃ t, exec (e.2.1 rd rs1 (.reg asi rs2)) s = .next t ∧ RegWritten s t s.seenCwp rd (e.2.2.2 v) ∧ Advanced s t ∧
        Frame [.counters, .intRegs, .clock] s t)

/-- LDD, LDDA, STD, STDA (40 R146, R152, 41 R174, R178): the even register holds the more significant word; with
ODD_RD_TRAPS an odd rd traps (decision D17). -/
def Obligations.DoubleLoadsStores : Prop :=
  ∀ (s : State) (rd rs1 rs2 : RegNum) (o : Operand2) (asi : Asi) (k v : Nat),
    let ea := s.effectiveAddress rs1 o
    let alt := s.readR rs1 + s.readR rs2
    let d := (s.readR (evenReg rd)).toNat * 2 ^ 32 + (s.readR (oddReg rd)).toNat
    if s.cfg.oddRdTraps = true ∧ rd.toNat % 2 = 1 then
      exec (.ldd rd rs1 o) s = .next (s.trap .illegalInstruction) ∧
      exec (.std rd rs1 o) s = .next (s.trap .illegalInstruction) ∧
      (s.seenS = true →
        exec (.ldda rd rs1 (.reg asi rs2)) s = .next (s.trap .illegalInstruction) ∧
        exec (.stda rd rs1 (.reg asi rs2)) s = .next (s.trap .illegalInstruction))
    else
      (ea.toNat % 8 = 0 → s.locate .read s.dataAsi ea 8 s.seenS = .found k → BytesAt s.mem k 8 v →
        ∃ t, exec (.ldd rd rs1 o) s = .next t ∧ PairWritten s t s.seenCwp rd (BitVec.ofNat 64 v) ∧ Advanced s t ∧
          Frame [.counters, .intRegs, .clock] s t) ∧
      (s.seenS = true → alt.toNat % 8 = 0 → s.locate .read asi alt 8 s.seenS = .found k → BytesAt s.mem k 8 v →
        ∃ t, exec (.ldda rd rs1 (.reg asi rs2)) s = .next t ∧ PairWritten s t s.seenCwp rd (BitVec.ofNat 64 v) ∧
          Advanced s t ∧ Frame [.counters, .intRegs, .clock] s t) ∧
      (ea.toNat % 8 = 0 → s.locate .write s.dataAsi ea 8 s.seenS = .found k →
        ∃ t, exec (.std rd rs1 o) s = .next t ∧ Stored s t k 8 d ∧ Advanced s t ∧
          Frame [.counters, .memory, .clock] s t) ∧
      (s.seenS = true → alt.toNat % 8 = 0 → s.locate .write asi alt 8 s.seenS = .found k →
        ∃ t, exec (.stda rd rs1 (.reg asi rs2)) s = .next t ∧ Stored s t k 8 d ∧ Advanced s t ∧
          Frame [.counters, .memory, .clock] s t)

/-- STB, STH, ST and their alternate forms (41 R170 to R173, R175 to R177): the low bytes of r[rd], most significant first
(decision D6); every other byte is unchanged. -/
def Obligations.IntegerStores : Prop :=
  ∀ e ∈ stores, ∀ (s : State) (rd rs1 : RegNum) (k : Nat),
    (∀ o : Operand2, (s.effectiveAddress rs1 o).toNat % e.2.2 = 0 →
      s.locate .write s.dataAsi (s.effectiveAddress rs1 o) e.2.2 s.seenS = .found k →
      ∃ t, exec (e.1 rd rs1 o) s = .next t ∧ Stored s t k e.2.2 (s.readR rd).toNat ∧ Advanced s t ∧
        Frame [.counters, .memory, .clock] s t) ∧
    (∀ (asi : Asi) (rs2 : RegNum), s.seenS = true → (s.readR rs1 + s.readR rs2).toNat % e.2.2 = 0 →
      s.locate .write asi (s.readR rs1 + s.readR rs2) e.2.2 s.seenS = .found k →
      ∃ t, exec (e.2.1 rd rs1 (.reg asi rs2)) s = .next t ∧ Stored s t k e.2.2 (s.readR rd).toNat ∧ Advanced s t ∧
        Frame [.counters, .memory, .clock] s t)

/-- LDSTUB, LDSTUBA, SWAP, SWAPA (42 R200 to R204): the old value goes to r[rd], the new one to memory. -/
def Obligations.AtomicExchanges : Prop :=
  ∀ (s : State) (rd rs1 : RegNum) (k v : Nat),
    (∀ o : Operand2,
      (s.locate .atomic s.dataAsi (s.effectiveAddress rs1 o) 1 s.seenS = .found k → BytesAt s.mem k 1 v → v < 256 →
        ∃ t, exec (.ldstub rd rs1 o) s = .next t ∧ RegWritten s t s.seenCwp rd (BitVec.ofNat 32 v) ∧
          Stored s t k 1 0xFF ∧ Advanced s t ∧ Frame [.counters, .intRegs, .memory, .clock] s t) ∧
      ((s.effectiveAddress rs1 o).toNat % 4 = 0 →
        s.locate .atomic s.dataAsi (s.effectiveAddress rs1 o) 4 s.seenS = .found k → BytesAt s.mem k 4 v →
        ∃ t, exec (.swap rd rs1 o) s = .next t ∧ RegWritten s t s.seenCwp rd (BitVec.ofNat 32 v) ∧
          Stored s t k 4 (s.readR rd).toNat ∧ Advanced s t ∧ Frame [.counters, .intRegs, .memory, .clock] s t)) ∧
    (∀ (asi : Asi) (rs2 : RegNum), s.seenS = true →
      (s.locate .atomic asi (s.readR rs1 + s.readR rs2) 1 s.seenS = .found k → BytesAt s.mem k 1 v → v < 256 →
        ∃ t, exec (.ldstuba rd rs1 (.reg asi rs2)) s = .next t ∧ RegWritten s t s.seenCwp rd (BitVec.ofNat 32 v) ∧
          Stored s t k 1 0xFF ∧ Advanced s t ∧ Frame [.counters, .intRegs, .memory, .clock] s t) ∧
      ((s.readR rs1 + s.readR rs2).toNat % 4 = 0 →
        s.locate .atomic asi (s.readR rs1 + s.readR rs2) 4 s.seenS = .found k → BytesAt s.mem k 4 v →
        ∃ t, exec (.swapa rd rs1 (.reg asi rs2)) s = .next t ∧ RegWritten s t s.seenCwp rd (BitVec.ofNat 32 v) ∧
          Stored s t k 4 (s.readR rd).toNat ∧ Advanced s t ∧ Frame [.counters, .intRegs, .memory, .clock] s t))

/-- A data access that the oracle answers (20 R84) traps in every integer load, store and atomic (20 R90, decision D26; logs 14
and 2): a load and an atomic leave any value in their destination registers, a doubleword store any value in its first
word, and nothing else is changed. -/
def Obligations.DataAccessTraps : Prop :=
  ∀ (s : State) (rd rs1 : RegNum) (form : Make3 × MakeAlt → Instr) (asi : Asi) (ea : Word) (x : Trap),
    Accesses s rd rs1 form asi ea →
    (∀ e ∈ loads, AccessFaults s .read asi ea e.2.2.1 x →
      TrapsAfter s (exec (form (e.1, e.2.1)) s) x [.intRegs] (fun u => ∃ v, RegWritten s u s.seenCwp rd v)) ∧
    (∀ e ∈ stores, AccessFaults s .write asi ea e.2.2 x → exec (form (e.1, e.2.1)) s = .next (s.trap x)) ∧
    (∀ e ∈ atomics, AccessFaults s .atomic asi ea e.2.2 x →
      TrapsAfter s (exec (form (e.1, e.2.1)) s) x [.intRegs] (fun u => ∃ v, RegWritten s u s.seenCwp rd v)) ∧
    ((s.cfg.oddRdTraps = true → rd.toNat % 2 = 0) →
      (AccessFaults s .read asi ea 8 x →
        TrapsAfter s (exec (form (.ldd, .ldda)) s) x [.intRegs] (fun u => ∃ v, PairWritten s u s.seenCwp rd v)) ∧
      (AccessFaults s .write asi ea 8 x →
        TrapsAfter s (exec (form (.std, .stda)) s) x [.memory, .clock] (FirstWordOnly s asi ea)))

/-- LDF, LDDF, LDFSR, STF, STDF, STFSR with floating point enabled, the FPU in no exception state (for the stores: or one that
does not sequence them, 41 R179; log 17) and, for the doubleword forms, an even rd or FREG_ALIGN_TRAPS off (40 R153 to R156, 41
R179 to R182; the layout of the FSR is decision D7, the byte order decision D6, the register check decision D18). STFSR shows
in qne whether the queue holds an entry, and may zero ftt (log 4). -/
def Obligations.FpLoadsStores : Prop :=
  ∀ (s : State) (rd rs1 : RegNum) (o : Operand2) (k v : Nat),
    let ea := s.effectiveAddress rs1 o
    s.seenEf = true → s.cfg.fpuPresent = true →
    (ea.toNat % 4 = 0 →
      (FpQuiet s → s.locate .read s.dataAsi ea 4 s.seenS = .found k → BytesAt s.mem k 4 v →
        (∃ t, exec (.ldf rd rs1 o) s = .next t ∧ FWritten s t rd (BitVec.ofNat 32 v) ∧ Advanced s t ∧
          Frame [.counters, .fRegs, .clock] s t) ∧
        (∃ t, exec (.ldfsr rd rs1 o) s = .next t ∧ FsrFrom s.fsr (BitVec.ofNat 32 v) t.fsr ∧ t.ldfsrLeft = 3 ∧
          Advanced s t ∧ Frame [.counters, .fsr, .clock] s t)) ∧
      (FpQuiet s ∨ s.cfg.fpStoresSequenced = false → s.locate .write s.dataAsi ea 4 s.seenS = .found k →
        (∃ t, exec (.stf rd rs1 o) s = .next t ∧ Stored s t k 4 (s.readF rd).toNat ∧ Advanced s t ∧
          Frame [.counters, .memory, .clock] s t) ∧
        (∃ t w, exec (.stfsr rd rs1 o) s = .next t ∧ FsrWord s.cfg s.qne s.fsr w ∧ Stored s t k 4 w.toNat ∧
          (w.getLsbD 13 = true ↔ s.cfg.fqPresent = true ∧ s.fq ≠ []) ∧
          t.fsr = (if s.cfg.stfsrZeroesFtt then { s.fsr with ftt := 0 } else s.fsr) ∧ Advanced s t ∧
          Frame [.counters, .memory, .fsr, .clock] s t))) ∧
    (ea.toNat % 8 = 0 → (s.cfg.fregAlignTraps = true → rd.toNat % 2 = 0) →
      (FpQuiet s → s.locate .read s.dataAsi ea 8 s.seenS = .found k → BytesAt s.mem k 8 v →
        ∃ t, exec (.lddf rd rs1 o) s = .next t ∧ FpWritten s t .double rd v ∧ Advanced s t ∧
          Frame [.counters, .fRegs, .clock] s t) ∧
      (FpQuiet s ∨ s.cfg.fpStoresSequenced = false → s.locate .write s.dataAsi ea 8 s.seenS = .found k →
        ∃ t, exec (.stdf rd rs1 o) s = .next t ∧
          Stored s t k 8 ((s.readF (evenReg rd)).toNat * 2 ^ 32 + (s.readF (oddReg rd)).toNat) ∧ Advanced s t ∧
          Frame [.counters, .memory, .clock] s t))

/-- STDFQ in supervisor mode (41 R183): without a queue or with an empty one it raises fp_exception with ftt = 4; the front of
the queue goes to memory, whether the entry is removed is the implementation's, and a deferred trap that is pending stays so
(the model's choices, log 18). -/
def Obligations.QueueStore : Prop :=
  ∀ (s : State) (rd rs1 : RegNum) (o : Operand2),
    s.seenS = true → s.seenEf = true → s.cfg.fpuPresent = true → (s.effectiveAddress rs1 o).toNat % 8 = 0 →
    ((s.cfg.fqPresent = false ∨ s.fq = []) → s.psr.et = true → s.pending = [] →
      ∃ t, exec (.stdfq rd rs1 o) s = .next t ∧ TrapEntered { s with fsr := { s.fsr with ftt := 4 } } t 0x08) ∧
    (∀ (d : Dword) (rest : List Dword) (k : Nat), s.cfg.fqPresent = true → s.fq = d :: rest →
      s.locate .write s.dataAsi (s.effectiveAddress rs1 o) 8 s.seenS = .found k →
      ∃ t, exec (.stdfq rd rs1 o) s = .next t ∧ Stored s t k 8 d.toNat ∧
        t.fq = (if s.cfg.stdfqPops then rest else s.fq) ∧ t.fpPending = s.fpPending ∧ Advanced s t ∧
        Frame [.counters, .memory, .fpQueue, .clock] s t)

/-- LDC, LDDC, LDCSR, STC, STDC, STCSR, STDCQ with the coprocessor enabled and silent (40 R157 to R160, 41 R184 to R188).
The named register, pair or CSR takes the value loaded; the rest of the coprocessor, after a load and after a store, is as its
own function CP_SEMANTICS has it (D20; log 19), and so is which register of a pair takes or gives which word and what an odd rd
of LDDC and STDC does. Where STDCQ is known to remove the entry, it does (log 18); of an empty queue it stores any doubleword
(log 18). -/
def Obligations.CpLoadsStores : Prop :=
  ∀ (s : State) (rd rs1 : RegNum) (o : Operand2) (k v : Nat),
    let ea := s.effectiveAddress rs1 o
    s.seenEc = true → s.cfg.cpPresent = true → s.cpExc = false →
    (ea.toNat % 4 = 0 →
      (s.locate .read s.dataAsi ea 4 s.seenS = .found k → BytesAt s.mem k 4 v →
        (∃ t, exec (.ldc rd rs1 o) s = .next t ∧
          CpRegsWritten (Config.cpMoved (.ldc rd (BitVec.ofNat 32 v)) s.cp) t.cp
            (fun n => if n = rd then some (BitVec.ofNat 32 v) else none) ∧
          Advanced s t ∧ Frame [.counters, .coprocessor, .clock] s t) ∧
        (∃ t, exec (.ldcsr rd rs1 o) s = .next t ∧
          t.cp = { Config.cpMoved (.ldcsr (BitVec.ofNat 32 v)) s.cp with csr := BitVec.ofNat 32 v } ∧ Advanced s t ∧
          Frame [.counters, .coprocessor, .clock] s t)) ∧
      (s.locate .write s.dataAsi ea 4 s.seenS = .found k →
        (∃ t, exec (.stc rd rs1 o) s = .next t ∧ Stored s t k 4 (s.readC rd).toNat ∧
          t.cp = Config.cpMoved (.stc rd) s.cp ∧ Advanced s t ∧ Frame [.counters, .memory, .coprocessor, .clock] s t) ∧
        (∃ t, exec (.stcsr rd rs1 o) s = .next t ∧ Stored s t k 4 s.cp.csr.toNat ∧
          t.cp = Config.cpMoved .stcsr s.cp ∧ Advanced s t ∧ Frame [.counters, .memory, .coprocessor, .clock] s t))) ∧
    (ea.toNat % 8 = 0 →
      (s.locate .read s.dataAsi ea 8 s.seenS = .found k → BytesAt s.mem k 8 v →
        ∃ t, exec (.lddc rd rs1 o) s = .next t ∧
          CpRegsWritten (Config.cpMoved (.lddc rd (BitVec.ofNat 64 v)) s.cp) t.cp
            (cpPairWords rd (BitVec.ofNat 64 v)) ∧ Advanced s t ∧
          Frame [.counters, .coprocessor, .clock] s t) ∧
      (s.locate .write s.dataAsi ea 8 s.seenS = .found k →
        (∃ t, exec (.stdc rd rs1 o) s = .next t ∧
          Stored s t k 8 (if rd.toNat % 2 = 0 then Config.cpStorePair rd (s.readC rd) (s.readC (rd + 1))
            else Config.cpStoreOdd rd s.cp).toNat ∧
          t.cp = Config.cpMoved (.stdc rd) s.cp ∧ Advanced s t ∧ Frame [.counters, .memory, .coprocessor, .clock] s t) ∧
        (∀ (d : Dword) (rest : List Dword), s.seenS = true → s.cfg.cqPresent = true → s.cp.cq = d :: rest →
          ∃ t, exec (.stdcq rd rs1 o) s = .next t ∧ Stored s t k 8 d.toNat ∧
            t.cp = (if s.cfg.stdcqPops then { Config.cpMoved .stdcq s.cp with cq := rest }
              else Config.cpMoved .stdcq s.cp) ∧ Advanced s t ∧
            Frame [.counters, .memory, .coprocessor, .clock] s t) ∧
        (s.seenS = true → s.cfg.cqPresent = true → s.cp.cq = [] →
          ∃ t, exec (.stdcq rd rs1 o) s = .next t ∧ (∃ d : Dword, Stored s t k 8 d.toNat) ∧
            t.cp = (if s.cfg.stdcqPops then { Config.cpMoved .stdcq s.cp with cq := [] }
              else Config.cpMoved .stdcq s.cp) ∧ Advanced s t ∧
            Frame [.counters, .memory, .coprocessor, .clock] s t)))

/-- The same for the floating-point and coprocessor loads and stores (20 R84, R90, decision D26; log 14), with the unit enabled
and in no exception state: after a load its destination holds any value, both registers of a doubleword, the loaded fields
of the FSR, the CSR; after a doubleword store its first word does. That an odd rd of LDDC spoils its pair is the model's choice
(log 19). -/
def Obligations.UnitAccessTraps : Prop :=
  ∀ (s : State) (rd rs1 : RegNum) (o : Operand2) (x : Trap),
    let ea := s.effectiveAddress rs1 o
    (s.seenEf = true → s.cfg.fpuPresent = true → FpQuiet s →
      (AccessFaults s .read s.dataAsi ea 4 x →
        TrapsAfter s (exec (.ldf rd rs1 o) s) x [.fRegs] (fun u => ∃ v, FWritten s u rd v) ∧
        TrapsAfter s (exec (.ldfsr rd rs1 o) s) x [.fsr] (fun u => ∃ v, FsrFrom s.fsr v u.fsr)) ∧
      (AccessFaults s .write s.dataAsi ea 4 x →
        exec (.stf rd rs1 o) s = .next (s.trap x) ∧ exec (.stfsr rd rs1 o) s = .next (s.trap x)) ∧
      ((s.cfg.fregAlignTraps = true → rd.toNat % 2 = 0) →
        (AccessFaults s .read s.dataAsi ea 8 x →
          TrapsAfter s (exec (.lddf rd rs1 o) s) x [.fRegs] (fun u => ∃ v, FpWritten s u .double rd v)) ∧
        (AccessFaults s .write s.dataAsi ea 8 x →
          TrapsAfter s (exec (.stdf rd rs1 o) s) x [.memory, .clock] (FirstWordOnly s s.dataAsi ea)))) ∧
    (s.seenS = true → s.seenEf = true → s.cfg.fpuPresent = true → s.cfg.fqPresent = true → s.fq ≠ [] →
      AccessFaults s .write s.dataAsi ea 8 x →
      TrapsAfter s (exec (.stdfq rd rs1 o) s) x [.memory, .clock] (FirstWordOnly s s.dataAsi ea)) ∧
    (s.seenEc = true → s.cfg.cpPresent = true → s.cpExc = false →
      (AccessFaults s .read s.dataAsi ea 4 x →
        TrapsAfter s (exec (.ldc rd rs1 o) s) x [.coprocessor] (fun u =>
          ∃ v, u.cp = { s.cp with regs := s.cp.regs.setIfInBounds rd.toNat v }) ∧
        TrapsAfter s (exec (.ldcsr rd rs1 o) s) x [.coprocessor] (fun u => ∃ v, u.cp = { s.cp with csr := v })) ∧
      (AccessFaults s .write s.dataAsi ea 4 x →
        exec (.stc rd rs1 o) s = .next (s.trap x) ∧ exec (.stcsr rd rs1 o) s = .next (s.trap x)) ∧
      (AccessFaults s .read s.dataAsi ea 8 x →
        TrapsAfter s (exec (.lddc rd rs1 o) s) x [.coprocessor] (fun u =>
          u.cp.csr = s.cp.csr ∧ u.cp.cq = s.cp.cq ∧ u.cp.cc = s.cp.cc ∧
            ∃ v w, ∀ n, u.readC n = if n = oddReg rd then w else if n = evenReg rd then v else s.readC n)) ∧
      (AccessFaults s .write s.dataAsi ea 8 x →
        TrapsAfter s (exec (.stdc rd rs1 o) s) x [.memory, .clock] (FirstWordOnly s s.dataAsi ea) ∧
        (s.seenS = true → s.cfg.cqPresent = true →
          TrapsAfter s (exec (.stdcq rd rs1 o) s) x [.memory, .clock] (FirstWordOnly s s.dataAsi ea))))

/-! ### Floating-point and coprocessor operate -/

/-- The arithmetic FPops and conversions (49 R410 to R446): where no raised exception is enabled, the result and the FSR
(R412, decision D27); with NS = 1 and a denormalized number the value and the exceptions are open (log 23), so that with all
traps masked the instruction completes whatever NS is. FMOVs, FNEGs and FABSs (R427 to R429) write bits only, whatever they
are and whatever is enabled. -/
def Obligations.FpResults : Prop :=
  (∀ e ∈ fpUnaries, ∀ (s : State) (rd rs2 : RegNum), FpReady s [(e.2.1, rs2), (e.2.2.1, rd)] →
    (s.fsr.ns = false → (e.2.2.2 s.fpEnv (s.readFp e.2.1 rs2)).exc &&& s.fsr.tem = 0 →
      ∃ t, exec (e.1 rd rs2) s = .next t ∧
        FpWritten s t e.2.2.1 rd (s.resolve e.2.2.1.format (e.2.2.2 s.fpEnv (s.readFp e.2.1 rs2)).bits) ∧
        t.fsr = fsrAfter s.fsr (e.2.2.2 s.fpEnv (s.readFp e.2.1 rs2)).exc ∧ Advanced s t ∧
        Frame [.counters, .fRegs, .fsr, .clock] s t) ∧
    (s.fsr.tem = 0 →
      ∃ t v exc, exec (e.1 rd rs2) s = .next t ∧ FpWritten s t e.2.2.1 rd v ∧ t.fsr = fsrAfter s.fsr exc ∧
        Advanced s t ∧ Frame [.counters, .fRegs, .fsr, .clock] s t)) ∧
  (∀ e ∈ fpBinaries, ∀ (s : State) (rd rs1 rs2 : RegNum),
    FpReady s [(e.2.1, rs1), (e.2.1, rs2), (e.2.2.1, rd)] →
    (s.fsr.ns = false → (e.2.2.2 s.fpEnv (s.readFp e.2.1 rs1) (s.readFp e.2.1 rs2)).exc &&& s.fsr.tem = 0 →
      ∃ t, exec (e.1 rd rs1 rs2) s = .next t ∧
        FpWritten s t e.2.2.1 rd
          (s.resolve e.2.2.1.format (e.2.2.2 s.fpEnv (s.readFp e.2.1 rs1) (s.readFp e.2.1 rs2)).bits) ∧
        t.fsr = fsrAfter s.fsr (e.2.2.2 s.fpEnv (s.readFp e.2.1 rs1) (s.readFp e.2.1 rs2)).exc ∧ Advanced s t ∧
        Frame [.counters, .fRegs, .fsr, .clock] s t) ∧
    (s.fsr.tem = 0 →
      ∃ t v exc, exec (e.1 rd rs1 rs2) s = .next t ∧ FpWritten s t e.2.2.1 rd v ∧ t.fsr = fsrAfter s.fsr exc ∧
        Advanced s t ∧ Frame [.counters, .fRegs, .fsr, .clock] s t)) ∧
  (∀ e ∈ fpMoves, ∀ (s : State) (rd rs2 : RegNum), FpReady s [] →
    ∃ t, exec (e.1 rd rs2) s = .next t ∧ FWritten s t rd (e.2 (s.readF rs2)) ∧ t.fsr = fsrAfter s.fsr 0 ∧ Advanced s t ∧
      Frame [.counters, .fRegs, .fsr, .clock] s t)

/-- The six compares (49 R447 to R453): fcc takes the relation, no f register changes, the rest of the FSR is as R412 leaves it
(decision D27), and the next FBfcc is inside the hazard of 70 R527. With NS = 1 and a denormalized number the relation and
the exceptions are open (log 23), so that with all traps masked the compare completes whatever NS is. -/
def Obligations.FpCompares : Prop :=
  ∀ e ∈ fpCompares, ∀ (s : State) (rs1 rs2 : RegNum), FpReady s [(e.2.1, rs1), (e.2.1, rs2)] →
    (s.fsr.ns = false →
      (fpCompare e.2.1.format e.2.2 (s.readFp e.2.1 rs1) (s.readFp e.2.1 rs2)).2 &&& s.fsr.tem = 0 →
      ∃ t, exec (e.1 rs1 rs2) s = .next t ∧
        t.fsr = { fsrAfter s.fsr (fpCompare e.2.1.format e.2.2 (s.readFp e.2.1 rs1) (s.readFp e.2.1 rs2)).2 with
          fcc := (fpCompare e.2.1.format e.2.2 (s.readFp e.2.1 rs1) (s.readFp e.2.1 rs2)).1 } ∧
        t.afterFpop2 = true ∧ Advanced s t ∧ Frame [.counters, .fsr, .clock] s t) ∧
    (s.fsr.tem = 0 →
      ∃ t exc rel, exec (e.1 rs1 rs2) s = .next t ∧ t.fsr = { fsrAfter s.fsr exc with fcc := rel } ∧ Advanced s t ∧
        Frame [.counters, .fsr, .clock] s t)

/-- fp_exception: an enabled IEEE exception of an FPop (49 R412, decision D27; with a queue it is deferred, log 17), a misaligned
f register number of an FPop, of LDDF or of STDF, with ftt = 6 (49 R411, 40 R155, 41 R181, decision D18). -/
def Obligations.FpExceptions : Prop :=
  (∀ e ∈ fpBinaries, ∀ (s : State) (rd rs1 rs2 : RegNum),
    (FpReady s [(e.2.1, rs1), (e.2.1, rs2), (e.2.2.1, rd)] → s.fsr.ns = false →
      (e.2.2.2 s.fpEnv (s.readFp e.2.1 rs1) (s.readFp e.2.1 rs2)).exc &&& s.fsr.tem ≠ 0 →
      IeeeTrapped s (exec (e.1 rd rs1 rs2) s) (e.2.2.2 s.fpEnv (s.readFp e.2.1 rs1) (s.readFp e.2.1 rs2)).exc) ∧
    (Misnumbered s [(e.2.1, rs1), (e.2.1, rs2), (e.2.2.1, rd)] →
      ∃ t, exec (e.1 rd rs1 rs2) s = .next t ∧ TrapEntered { s with fsr := { s.fsr with ftt := 6 } } t 0x08)) ∧
  (∀ e ∈ fpUnaries, ∀ (s : State) (rd rs2 : RegNum),
    (FpReady s [(e.2.1, rs2), (e.2.2.1, rd)] → s.fsr.ns = false →
      (e.2.2.2 s.fpEnv (s.readFp e.2.1 rs2)).exc &&& s.fsr.tem ≠ 0 →
      IeeeTrapped s (exec (e.1 rd rs2) s) (e.2.2.2 s.fpEnv (s.readFp e.2.1 rs2)).exc) ∧
    (Misnumbered s [(e.2.1, rs2), (e.2.2.1, rd)] →
      ∃ t, exec (e.1 rd rs2) s = .next t ∧ TrapEntered { s with fsr := { s.fsr with ftt := 6 } } t 0x08)) ∧
  (∀ e ∈ fpCompares, ∀ (s : State) (rs1 rs2 : RegNum),
    (FpReady s [(e.2.1, rs1), (e.2.1, rs2)] → s.fsr.ns = false →
      (fpCompare e.2.1.format e.2.2 (s.readFp e.2.1 rs1) (s.readFp e.2.1 rs2)).2 &&& s.fsr.tem ≠ 0 →
      IeeeTrapped s (exec (e.1 rs1 rs2) s)
        (fpCompare e.2.1.format e.2.2 (s.readFp e.2.1 rs1) (s.readFp e.2.1 rs2)).2) ∧
    (Misnumbered s [(e.2.1, rs1), (e.2.1, rs2)] →
      ∃ t, exec (e.1 rs1 rs2) s = .next t ∧ TrapEntered { s with fsr := { s.fsr with ftt := 6 } } t 0x08)) ∧
  (∀ mk ∈ [Instr.lddf, Instr.stdf], ∀ (s : State) (rd rs1 : RegNum) (o : Operand2), s.seenEf = true →
    s.cfg.fpuPresent = true → FpQuiet s → (s.effectiveAddress rs1 o).toNat % 8 = 0 → s.cfg.fregAlignTraps = true →
    rd.toNat % 2 = 1 → s.psr.et = true → s.pending = [] →
    ∃ t, exec (mk rd rs1 o) s = .next t ∧ TrapEntered { s with fsr := { s.fsr with ftt := 6 } } t 0x08)

/-- CPop1 and CPop2 with the coprocessor enabled and silent (49 R460 to R462): the coprocessor's own state changes, by its
own function (log 19), and nothing else; CPop1 leaves bp_CP_cc. -/
def Obligations.CpOperations : Prop :=
  ∀ (s : State) (rd rs1 rs2 : RegNum) (opc : BitVec 9), s.seenEc = true → s.cfg.cpPresent = true → s.cpExc = false →
    (∃ t, exec (.cpop1 rd rs1 opc rs2) s = .next t ∧ t.cp.cc = s.cp.cc ∧
      t.cp = { Config.cpOperate false rd rs1 opc rs2 s.cp with cc := s.cp.cc } ∧ Advanced s t ∧
      Frame [.counters, .coprocessor, .clock] s t) ∧
    (∃ t, exec (.cpop2 rd rs1 opc rs2) s = .next t ∧ t.cp = Config.cpOperate true rd rs1 opc rs2 s.cp ∧ Advanced s t ∧
      Frame [.counters, .coprocessor, .clock] s t)

/-- Traps that a unit presents, with traps enabled. A coprocessor that signals an exception gets its next instruction trapped
(60 R479; log 19), and so does a coprocessor without a queue its STDCQ, or that STDCQ is illegal in supervisor mode, before
cp_disabled and at any address (41 R188, 60 R474; log 20). An FPU with a queue (log 17) gives its deferred trap to the next FPop or FBfcc (60 R476(a)), and raises sequence_error, ftt = 4, in the FPops and FBfcc met by a
nonempty queue, in the loads met by an exception state (40 R153), and in the stores where the implementation sequences
them (60 R478). -/
def Obligations.PendingUnitTraps : Prop :=
  (∀ s : State, s.psr.et = true → s.pending = [] → s.seenEc = true → s.cfg.cpPresent = true → s.cpExc = true →
    (∀ i : Instr, IsCpBranchOrOp i → ∃ t, exec i s = .next t ∧ TrapEntered { s with cpExc := false } t 0x28) ∧
    (∀ e ∈ cpAccesses, ∀ (rd rs1 : RegNum) (o : Operand2), (e.2.2 = true → s.seenS = true ∧ StdcqLegal s) →
      (s.effectiveAddress rs1 o).toNat % e.2.1 = 0 →
      ∃ t, exec (e.1 rd rs1 o) s = .next t ∧ TrapEntered { s with cpExc := false } t 0x28)) ∧
  (∀ (s : State) (rd rs1 : RegNum) (o : Operand2), s.psr.et = true → s.pending = [] → s.seenS = true →
    s.seenEc = true → s.cfg.cpPresent = true → s.cfg.cqPresent = false → s.cfg.stdcqNoQueue = .cpException →
    (s.effectiveAddress rs1 o).toNat % 8 = 0 →
    ∃ t, exec (.stdcq rd rs1 o) s = .next t ∧ TrapEntered { s with cpExc := false } t 0x28) ∧
  (∀ (s : State) (rd rs1 : RegNum) (o : Operand2), s.seenS = true → s.cfg.cpPresent = true → s.cfg.cqPresent = false →
    s.cfg.stdcqNoQueue = .illegalInstruction → exec (.stdcq rd rs1 o) s = .next (s.trap .illegalInstruction)) ∧
  (∀ s : State, s.psr.et = true → s.pending = [] → s.seenEf = true → s.cfg.fpuPresent = true →
    s.cfg.fqPresent = true →
    (∀ i : Instr, IsFpBranchOrOp i →
      (∀ k, s.fpPending = some k →
        ∃ t, exec i s = .next t ∧ TrapEntered { s with fpPending := none, fsr := { s.fsr with ftt := k } } t 0x08) ∧
      (s.fpPending = none → s.fq ≠ [] →
        ∃ t, exec i s = .next t ∧ TrapEntered { s with fsr := { s.fsr with ftt := 4 } } t 0x08)) ∧
    (∀ e ∈ fpSequenced, ∀ (rd rs1 : RegNum) (o : Operand2), (e.2.2 = true → s.cfg.fpStoresSequenced = true) →
      ¬ FpQuiet s → (s.effectiveAddress rs1 o).toNat % e.2.1 = 0 →
      ∃ t, exec (e.1 rd rs1 o) s = .next t ∧ TrapEntered { s with fsr := { s.fsr with ftt := 4 } } t 0x08))

/-- What the floating-point functions compute (49 R412, R413, R415 to R447, decision D27). On operands that denote numbers: a
sum, a difference, a product, a quotient, a square root, a conversion is the exact number rounded once, a zero has its sign; a
conversion to an integer cuts toward zero, and is invalid where the integer does not fit; a compare says which number is less.
On the others: a zero divisor gives DZ and an infinity with its sign; inf - inf, 0 * inf, 0 / 0, inf / inf and the root of a
negative number give NV and a quiet NaN, other operations on infinities an infinity or a zero; a NaN operand gives a quiet
NaN, and NV if it signals (which NaN: log 21; which integer: log 24); a NaN compares unordered, fcc 3, with NV for a signaling
one and, in FCMPE, for every one. -/
def Obligations.FpValues : Prop :=
  ∀ (p q : Prec) (env : FpEnv) (x y : Nat) (u v : FpVal), p.format.unpack x = u → p.format.unpack y = v →
    let sum := fpAdd p.format env x y
    let difference := fpSub p.format env x y
    let product := fpMul p.format q.format env x y
    let quotient := fpDiv p.format env x y
    let root := fpSqrt p.format env x
    let converted := fpConvert p.format q.format env x
    let integer := fpToInt p.format x
    (∀ a b : ℚ, ratValue u = some a → ratValue v = some b →
      Rounded p env.rd (a + b : ℚ) sum ∧ Rounded p env.rd (a - b : ℚ) difference ∧ Rounded q env.rd (a * b : ℚ) product ∧
      (b ≠ 0 → Rounded p env.rd (a / b : ℚ) quotient) ∧ (0 ≤ a → Rounded p env.rd (Real.sqrt a) root) ∧
      Rounded q env.rd (a : ℝ) converted ∧ (∀ w : Word, Rounded q env.rd (w.toInt : ℝ) (fpFromInt q.format env w)) ∧
      (if -2147483648 ≤ truncated a ∧ truncated a ≤ 2147483647 then
        integer.bits = .exact (BitVec.ofInt 32 (truncated a)).toNat ∧
          integer.exc = if (truncated a : ℚ) = a then 0 else excNX
      else GivesInvalidInteger (some (decide (a < 0))) integer) ∧
      ∀ quiet, fpCompare p.format quiet x y = (if a = b then 0 else if a < b then 1 else 2, 0)) ∧
    (∀ (su sv : Bool) (mu mv : Nat) (eu ev : Int), u = .finite su mu eu → v = .finite sv mv ev →
      (∀ a : ℚ, ratValue u = some a →
        (ratValue v = some (-a) → GivesZero p (if su = sv then su else env.rd == 3) sum) ∧
        (ratValue v = some a → GivesZero p (if su = !sv then su else env.rd == 3) difference)) ∧
      (mu = 0 ∨ mv = 0 → GivesZero q (su ^^ sv) product) ∧
      (if mv = 0 then
        if mu = 0 then GivesInvalid p quotient else GivesInf p (su ^^ sv) excDZ quotient
      else mu = 0 → GivesZero p (su ^^ sv) quotient)) ∧
    (∀ (su : Bool) (mu : Nat) (eu : Int), u = .finite su mu eu →
      (mu = 0 → GivesZero p su root ∧ GivesZero q su converted) ∧ (mu ≠ 0 → su = true → GivesInvalid p root)) ∧
    (∀ su sv : Bool, u = .inf su → v = .inf sv →
      (if su = sv then GivesInf p su 0 sum ∧ GivesInvalid p difference
      else GivesInvalid p sum ∧ GivesInf p su 0 difference) ∧
      GivesInf q (su ^^ sv) 0 product ∧ GivesInvalid p quotient) ∧
    (∀ (su sv : Bool) (mv : Nat) (ev : Int), u = .inf su → v = .finite sv mv ev →
      GivesInf p su 0 sum ∧ GivesInf p su 0 difference ∧ GivesInf p (su ^^ sv) 0 quotient ∧
      if mv = 0 then GivesInvalid q product else GivesInf q (su ^^ sv) 0 product) ∧
    (∀ (su sv : Bool) (mu : Nat) (eu : Int), u = .finite su mu eu → v = .inf sv →
      GivesInf p sv 0 sum ∧ GivesInf p (!sv) 0 difference ∧ GivesZero p (su ^^ sv) quotient ∧
      if mu = 0 then GivesInvalid q product else GivesInf q (su ^^ sv) 0 product) ∧
    (∀ su : Bool, u = .inf su →
      (if su then GivesInvalid p root else GivesInf p false 0 root) ∧ GivesInf q su 0 converted ∧
      GivesInvalidInteger (some su) integer) ∧
    (∀ (signaling : Bool) (n : Nat), u = .nan signaling n →
      GivesOperandNan p (some n) signaling root ∧ GivesOperandNan q none signaling converted ∧
      GivesInvalidInteger none integer) ∧
    (u.isNan || v.isNan →
      (∀ r ∈ [sum, difference, quotient],
        GivesOperandNan p (suggestedNan u v) (u.isSignaling || v.isSignaling) r) ∧
      GivesOperandNan q (if p = q then suggestedNan u v else none) (u.isSignaling || v.isSignaling) product) ∧
    ∀ quiet,
      (u.isNan || v.isNan →
        fpCompare p.format quiet x y = (3, if quiet || u.isSignaling || v.isSignaling then excNV else 0)) ∧
      (∀ su, u = .inf su → v.isNan = false →
        fpCompare p.format quiet x y = (if v = .inf su then 0 else if su then 1 else 2, 0)) ∧
      (∀ sv, v = .inf sv → u.isNan = false →
        fpCompare p.format quiet x y = (if u = .inf sv then 0 else if sv then 2 else 1, 0))

/-- Rounding (49 R412, R413, decision D27), of a number given by its significand and exponent, exactly or, where it has more
digits than a result keeps, as one strictly between two neighbouring significands (`sticky`): the result is that number
rounded once. -/
def Obligations.RoundingIsCorrect : Prop :=
  ∀ (p : Prec) (env : FpEnv) (sign : Bool) (m : Nat) (e : Int) (sticky : Bool) (x : ℝ),
    (if sticky then
      2 ^ (p.format.fbits + 1) ≤ m ∧ (m : ℝ) * (2 : ℝ) ^ e < x ∧ x < ((m : ℝ) + 1) * (2 : ℝ) ^ e
    else x = (m : ℝ) * (2 : ℝ) ^ e) →
    Rounded p env.rd (if sign then -x else x) (p.format.round env sign m e sticky)

/-! ### Whole-machine rules -/

/-- Privileged instructions in user mode (60 R491), before any other check. -/
def Obligations.PrivilegedInUserMode : Prop :=
  ∀ (i : Instr) (s : State), i.privileged = true → s.seenS = false →
    exec i s = .next (s.trap .privilegedInstruction)

/-- fp_disabled and cp_disabled (10_state R31): before every other check but the privilege of STDFQ and STDCQ and STDCQ's
illegal_instruction for want of a queue (60 R474). -/
def Obligations.DisabledUnits : Prop :=
  (∀ (i : Instr) (s : State), i.usesFpu = true → (s.seenEf = false ∨ s.cfg.fpuPresent = false) →
    (i.privileged = true → s.seenS = true) → exec i s = .next (s.trap .fpDisabled)) ∧
  (∀ (i : Instr) (s : State), i.usesCp = true → (s.seenEc = false ∨ s.cfg.cpPresent = false) →
    (i.privileged = true → s.seenS = true ∧ StdcqLegal s) → exec i s = .next (s.trap .cpDisabled))

/-- The alternate-space forms with i = 1 are illegal (20 R71, 40 R140, 41 R170, 42 R200), after their privilege check. Misaligned
data accesses trap and do nothing else (20 R74, R75), after the checks of higher priority (60 R474, decision D9). -/
def Obligations.AccessChecksTrap : Prop :=
  (∀ mk ∈ alternates, ∀ (s : State) (rd rs1 : RegNum) (low13 : BitVec 13), s.seenS = true →
    exec (mk rd rs1 (.imm low13)) s = .next (s.trap .illegalInstruction)) ∧
  (∀ e ∈ ordinaryAccesses, ∀ (s : State) (rd rs1 : RegNum) (o : Operand2),
    (s.effectiveAddress rs1 o).toNat % e.2 ≠ 0 → (e.2 = 8 → s.cfg.oddRdTraps = true → rd.toNat % 2 = 0) →
    exec (e.1 rd rs1 o) s = .next (s.trap .memAddressNotAligned)) ∧
  (∀ e ∈ alternateAccesses, ∀ (s : State) (rd rs1 rs2 : RegNum) (asi : Asi), s.seenS = true →
    (s.readR rs1 + s.readR rs2).toNat % e.2 ≠ 0 → (e.2 = 8 → s.cfg.oddRdTraps = true → rd.toNat % 2 = 0) →
    exec (e.1 rd rs1 (.reg asi rs2)) s = .next (s.trap .memAddressNotAligned)) ∧
  (∀ e ∈ fpAccesses, ∀ (s : State) (rd rs1 : RegNum) (o : Operand2), s.seenEf = true → s.cfg.fpuPresent = true →
    (e.2.2 = true → s.seenS = true) → (s.effectiveAddress rs1 o).toNat % e.2.1 ≠ 0 →
    exec (e.1 rd rs1 o) s = .next (s.trap .memAddressNotAligned)) ∧
  (∀ e ∈ cpAccesses, ∀ (s : State) (rd rs1 : RegNum) (o : Operand2), s.seenEc = true → s.cfg.cpPresent = true →
    (e.2.2 = true → s.seenS = true ∧ StdcqLegal s) → (s.effectiveAddress rs1 o).toNat % e.2.1 ≠ 0 →
    exec (e.1 rd rs1 o) s = .next (s.trap .memAddressNotAligned))

/-- Who writes what (10_state R29, R36 to R38, R52): whatever an instruction does, traps included, PSR.icc changes only in the
instructions R29 lists, Y only in those of R38, WIM, TBA, EC, EF and PIL only in WRWIM, WRTBR and WRPSR, the f registers only
in the floating-point loads and FPops, memory only in the stores and the atomics. -/
def Obligations.OnlyWriters : Prop :=
  ∀ (i : Instr) (s t : State), exec i s = .next t →
    (i.writesIcc = false → t.psr.icc = s.psr.icc) ∧ (i.writesY = false → t.y = s.y) ∧
    (i.isWrwim = false → t.wim = s.wim) ∧ (i.isWrtbr = false → t.tbr.tba = s.tbr.tba) ∧
    (i.isWrpsr = false → t.psr.ec = s.psr.ec ∧ t.psr.ef = s.psr.ef ∧ t.psr.pil = s.psr.pil) ∧
    (i.writesF = false → t.f = s.f) ∧ (i.writesMemory = false → t.mem = s.mem)

/-- What user mode cannot do (60 R490 to R492, 10_state R52): with no window of a WRPSR, a WRWIM or a WRTBR open, a step taken
in user mode leaves WIM, TBA, EC, EF and PIL as they are and opens no such window, so that all this is true again of the
next step in user mode; and supervisor mode is entered only by a trap, at an address of the trap table (decision D10). -/
def Obligations.UserModeConfined : Prop :=
  ∀ s t : State, PrivilegedSettled s → s.psr.s = false → s.resetReq = false → step s = .next t →
    PrivilegedSettled t ∧
    t.wim = s.wim ∧ t.tbr.tba = s.tbr.tba ∧ t.psr.ec = s.psr.ec ∧ t.psr.ef = s.psr.ef ∧ t.psr.pil = s.psr.pil ∧
    (t.psr.s = true → ∃ tt : BitVec 8, t.pc = s.tbr.tba ++ tt ++ 0#4 ∧ t.tbr.tt = tt ∧ t.psr.et = false ∧ t.psr.ps = false)
end

