-- ==== Sys2Proof/Laws/Memory.lean ====
section
/-! SUPPORT. Memory: reading after writing, byte by byte, and the canonical form every write keeps. -/

namespace Sys2Proof.Machine

namespace Memory

/-! ### One byte -/

@[simp] theorem find_nil (k : Nat) : Memory.find k [] = none := rfl

theorem find_cons (k a : Nat) (b : Byte) (m : Memory) : Memory.find k ((a, b) :: m) = if a = k then some b else m.find k := rfl

theorem read1_eq_find (m : Memory) (k : Nat) : m.read1 k = m.find k := by
  unfold Memory.read1; cases m.find k <;> rfl

theorem write1_eq_insert (m : Memory) (k : Nat) (b : Byte) : m.write1 k b = m.insert k b := by
  simp [Memory.write1, unlistedByte]

/-- What a key below every listed one reads as. -/
theorem find_of_rising {lo : Nat} {m : Memory} (h : m.rising (some lo) = true) {k : Nat} (hk : k ≤ lo) :
    m.find k = none := by
  induction m generalizing lo with
  | nil => rfl
  | cons c m ih =>
    obtain ⟨a, b⟩ := c
    simp only [Memory.rising, Bool.and_eq_true, decide_eq_true_eq] at h
    rw [find_cons, if_neg (by omega), ih h.2 (by omega)]

theorem find_insert (m : Memory) (k j : Nat) (b : Byte) :
    (m.insert k b).find j = if j = k then some b else m.find j := by
  induction m with
  | nil => simp [Memory.insert, find_cons, eq_comm]
  | cons c m ih =>
    obtain ⟨a, d⟩ := c
    simp only [Memory.insert]
    split
    · simp only [find_cons]; grind
    · split
      · simp only [find_cons]; grind
      · simp only [find_cons, ih]; grind

/-- Reading a byte after writing one. -/
theorem read1_write1 (m : Memory) (k j : Nat) (b : Byte) :
    (m.write1 k b).read1 j = if j = k then some b else m.read1 j := by
  rw [write1_eq_insert, read1_eq_find, read1_eq_find, find_insert]

/-! ### Wider accesses, big-endian (20 R72) -/

theorem byteOf_extract {w : Nat} (n j : Nat) (v : BitVec w) :
    byteOf n v.toNat j = v.extractLsb' (8 * (n - 1 - j)) 8 := by
  apply BitVec.eq_of_toNat_eq
  simp [byteOf, Nat.shiftRight_eq_div_pow, pow_mul]

/-- Every byte after a write of two. -/
theorem read1_write2 (m : Memory) (k : Nat) (v : Half) (j : Nat) :
    (m.write2 k v).read1 j = if k ≤ j ∧ j < k + 2 then some (byteOf 2 v.toNat (j - k)) else m.read1 j := by
  simp only [Memory.write2, read1_write1, byteOf_extract]
  by_cases h1 : j = k + 1
  · subst h1; simp
  · by_cases h0 : j = k
    · subst h0; simp
    · rw [if_neg h1, if_neg h0, if_neg (by omega)]

theorem extract_extract {w : Nat} (v : BitVec w) (a n b l : Nat) (h : b + l ≤ n) :
    (v.extractLsb' a n).extractLsb' b l = v.extractLsb' (a + b) l := by
  ext i hi
  simp only [BitVec.getElem_extractLsb', BitVec.getLsbD_extractLsb']
  rw [show decide (b + i < n) = true by simp; omega, Bool.true_and, Nat.add_assoc]

/-- Every byte after a write of four. -/
theorem read1_write4 (m : Memory) (k : Nat) (v : Word) (j : Nat) :
    (m.write4 k v).read1 j = if k ≤ j ∧ j < k + 4 then some (byteOf 4 v.toNat (j - k)) else m.read1 j := by
  simp only [Memory.write4, read1_write2, byteOf_extract]
  by_cases h1 : k + 2 ≤ j ∧ j < k + 2 + 2
  · rw [if_pos h1, if_pos (by omega), extract_extract _ _ _ _ _ (by omega)]
    congr 2; omega
  · rw [if_neg h1]
    by_cases h0 : k ≤ j ∧ j < k + 2
    · rw [if_pos h0, if_pos (by omega), extract_extract _ _ _ _ _ (by omega)]
      congr 2; omega
    · rw [if_neg h0, if_neg (by omega)]

/-- Every byte after a write of eight. -/
theorem read1_write8 (m : Memory) (k : Nat) (v : Dword) (j : Nat) :
    (m.write8 k v).read1 j = if k ≤ j ∧ j < k + 8 then some (byteOf 8 v.toNat (j - k)) else m.read1 j := by
  simp only [Memory.write8, read1_write4, byteOf_extract]
  by_cases h1 : k + 4 ≤ j ∧ j < k + 4 + 4
  · rw [if_pos h1, if_pos (by omega), extract_extract _ _ _ _ _ (by omega)]
    congr 2; omega
  · rw [if_neg h1]
    by_cases h0 : k ≤ j ∧ j < k + 4
    · rw [if_pos h0, if_pos (by omega), extract_extract _ _ _ _ _ (by omega)]
      congr 2; omega
    · rw [if_neg h0, if_neg (by omega)]

/-! ### Reading what the bytes hold -/

/-- Reading one byte of a run. -/
theorem read1_of_bytesAt {m : Memory} {k v : Nat} (h : BytesAt m k 1 v) : m.read1 k = some (BitVec.ofNat 8 v) := by
  simpa [byteOf] using h 0 (by omega)

theorem ofNat_append (a b v : Nat) :
    (BitVec.ofNat a (v / 2 ^ b) ++ BitVec.ofNat b v : BitVec (a + b)) = BitVec.ofNat (a + b) v := by
  apply BitVec.eq_of_getLsbD_eq
  intro i hi
  simp only [BitVec.getLsbD_append, BitVec.getLsbD_ofNat, Nat.testBit_div_two_pow]
  grind

/-- The two halves of a run of bytes. -/
theorem bytesAt_split {m : Memory} {k v : Nat} (a b : Nat) (h : BytesAt m k (a + b) v) :
    BytesAt m k a (v / 256 ^ b) ∧ BytesAt m (k + a) b v := by
  constructor
  · intro j hj
    rw [h j (by omega), byteOf, byteOf, Nat.div_div_eq_div_mul, ← pow_add]
    congr 3; congr 1; omega
  · intro j hj
    rw [Nat.add_assoc, h (a + j) (by omega), byteOf, byteOf]
    congr 3; congr 1; omega

theorem read2_of_bytesAt {m : Memory} {k v : Nat} (h : BytesAt m k 2 v) : m.read2 k = some (BitVec.ofNat 16 v) := by
  obtain ⟨h1, h2⟩ := bytesAt_split 1 1 h
  simp only [Memory.read2, read1_of_bytesAt h1, read1_of_bytesAt h2, Option.pure_def, Option.bind_eq_bind,
    Option.bind_some]
  exact congrArg some (ofNat_append 8 8 v)

theorem read4_of_bytesAt {m : Memory} {k v : Nat} (h : BytesAt m k 4 v) : m.read4 k = some (BitVec.ofNat 32 v) := by
  obtain ⟨h1, h2⟩ := bytesAt_split 2 2 h
  simp only [Memory.read4, read2_of_bytesAt h1, read2_of_bytesAt h2, Option.pure_def, Option.bind_eq_bind,
    Option.bind_some]
  exact congrArg some (ofNat_append 16 16 v)

theorem read8_of_bytesAt {m : Memory} {k v : Nat} (h : BytesAt m k 8 v) : m.read8 k = some (BitVec.ofNat 64 v) := by
  obtain ⟨h1, h2⟩ := bytesAt_split 4 4 h
  simp only [Memory.read8, read4_of_bytesAt h1, read4_of_bytesAt h2, Option.pure_def, Option.bind_eq_bind,
    Option.bind_some]
  exact congrArg some (ofNat_append 32 32 v)

/-! ### The canonical form -/

theorem rising_weaken {lo lo' : Option Nat} {m : Memory} (h : m.rising lo = true)
    (hle : ∀ l', lo' = some l' → ∃ l, lo = some l ∧ l' ≤ l) : m.rising lo' = true := by
  cases m with
  | nil => rfl
  | cons c m =>
    obtain ⟨a, b⟩ := c
    cases lo' with
    | none => cases lo <;> simp_all [Memory.rising]
    | some l' => obtain ⟨l, rfl, hl⟩ := hle l' rfl; simp only [Memory.rising, Bool.and_eq_true, decide_eq_true_eq] at h ⊢; exact ⟨by omega, h.2⟩

theorem rising_insert {lo : Option Nat} {m : Memory} (h : m.rising lo = true) {k : Nat} (b : Byte)
    (hk : ∀ l, lo = some l → l < k) : (m.insert k b).rising lo = true := by
  induction m generalizing lo with
  | nil => cases lo <;> simp_all [Memory.insert, Memory.rising]
  | cons c m ih =>
    obtain ⟨a, d⟩ := c
    simp only [Memory.rising, Bool.and_eq_true] at h
    simp only [Memory.insert]
    split
    · rename_i hlt
      simp only [Memory.rising, Bool.and_eq_true, decide_eq_true_eq]
      exact ⟨by cases lo <;> simp_all, hlt, h.2⟩
    · split
      · rename_i heq; subst heq
        simp only [Memory.rising, Bool.and_eq_true]; exact h
      · simp only [Memory.rising, Bool.and_eq_true]
        exact ⟨h.1, ih h.2 (by intro l hl; cases hl; omega)⟩

theorem wf_iff_rising (m : Memory) : m.wf = m.rising none := by
  simp [Memory.wf, unlistedByte]

/-- Writing a byte keeps the canonical form. -/
theorem wf_write1 {m : Memory} (h : m.wf = true) (k : Nat) (b : Byte) : (m.write1 k b).wf = true := by
  rw [wf_iff_rising] at h ⊢
  rw [write1_eq_insert]
  exact rising_insert h b (by simp)

theorem wf_write2 {m : Memory} (h : m.wf = true) (k : Nat) (v : Half) : (m.write2 k v).wf = true :=
  wf_write1 (wf_write1 h _ _) _ _

theorem wf_write4 {m : Memory} (h : m.wf = true) (k : Nat) (v : Word) : (m.write4 k v).wf = true :=
  wf_write2 (wf_write2 h _ _) _ _

theorem wf_write8 {m : Memory} (h : m.wf = true) (k : Nat) (v : Dword) : (m.write8 k v).wf = true :=
  wf_write4 (wf_write4 h _ _) _ _

/-- Unlisting a key keeps the canonical form. -/
theorem rising_erase {lo : Option Nat} {m : Memory} (h : m.rising lo = true) (k : Nat) : (Memory.erase k m).rising lo = true := by
  induction m generalizing lo with
  | nil => rfl
  | cons c m ih =>
    obtain ⟨a, b⟩ := c
    simp only [Memory.rising, Bool.and_eq_true] at h
    by_cases hk : a = k
    · subst hk
      have : Memory.erase a ((a, b) :: m) = Memory.erase a m := by simp [Memory.erase]
      rw [this]
      refine rising_weaken (ih h.2) ?_
      intro l hl; subst hl; exact ⟨a, rfl, by simpa using Nat.le_of_lt (by simpa using h.1)⟩
    · have : Memory.erase k ((a, b) :: m) = (a, b) :: Memory.erase k m := by simp [Memory.erase, hk]
      rw [this]
      simp only [Memory.rising, Bool.and_eq_true]
      exact ⟨h.1, ih h.2⟩

end Memory

/-- Memory after reset has the canonical form. -/
theorem reset_mem_wf : State.reset.mem.wf = true := rfl

end Sys2Proof.Machine
end

