-- ==== Sys2Proof/Laws/State.lean ====
section
/-! SUPPORT. For each update of the state, one lemma for each field it leaves alone. -/

namespace Sys2Proof.Machine

variable (s : State)

/-! ### retire -/

@[simp] theorem State.retire_cfg : s.retire.cfg = s.cfg := rfl
@[simp] theorem State.retire_pc : s.retire.pc = s.pc := rfl
@[simp] theorem State.retire_npc : s.retire.npc = s.npc := rfl
@[simp] theorem State.retire_annul : s.retire.annul = s.annul := rfl
@[simp] theorem State.retire_errorMode : s.retire.errorMode = s.errorMode := rfl
@[simp] theorem State.retire_g : s.retire.g = s.g := rfl
@[simp] theorem State.retire_win : s.retire.win = s.win := rfl
@[simp] theorem State.retire_psr : s.retire.psr = s.psr := rfl
@[simp] theorem State.retire_wim : s.retire.wim = s.wim := rfl
@[simp] theorem State.retire_tbr : s.retire.tbr = s.tbr := rfl
@[simp] theorem State.retire_y : s.retire.y = s.y := rfl
@[simp] theorem State.retire_asr : s.retire.asr = s.asr := rfl
@[simp] theorem State.retire_f : s.retire.f = s.f := rfl
@[simp] theorem State.retire_fsr : s.retire.fsr = s.fsr := rfl
@[simp] theorem State.retire_fq : s.retire.fq = s.fq := rfl
@[simp] theorem State.retire_fpPending : s.retire.fpPending = s.fpPending := rfl
@[simp] theorem State.retire_cp : s.retire.cp = s.cp := rfl
@[simp] theorem State.retire_cpExc : s.retire.cpExc = s.cpExc := rfl
@[simp] theorem State.retire_mem : s.retire.mem = s.mem := rfl
@[simp] theorem State.retire_irl : s.retire.irl = s.irl := rfl
@[simp] theorem State.retire_resetReq : s.retire.resetReq = s.resetReq := rfl
@[simp] theorem State.retire_storeError : s.retire.storeError = s.storeError := rfl
@[simp] theorem State.retire_fetchDoubt : s.retire.fetchDoubt = s.fetchDoubt := rfl

/-! ### advance -/

@[simp] theorem State.advance_cfg : s.advance.cfg = s.cfg := rfl
@[simp] theorem State.advance_annul : s.advance.annul = s.annul := rfl
@[simp] theorem State.advance_errorMode : s.advance.errorMode = s.errorMode := rfl
@[simp] theorem State.advance_g : s.advance.g = s.g := rfl
@[simp] theorem State.advance_win : s.advance.win = s.win := rfl
@[simp] theorem State.advance_psr : s.advance.psr = s.psr := rfl
@[simp] theorem State.advance_wim : s.advance.wim = s.wim := rfl
@[simp] theorem State.advance_tbr : s.advance.tbr = s.tbr := rfl
@[simp] theorem State.advance_y : s.advance.y = s.y := rfl
@[simp] theorem State.advance_asr : s.advance.asr = s.asr := rfl
@[simp] theorem State.advance_f : s.advance.f = s.f := rfl
@[simp] theorem State.advance_fsr : s.advance.fsr = s.fsr := rfl
@[simp] theorem State.advance_fq : s.advance.fq = s.fq := rfl
@[simp] theorem State.advance_fpPending : s.advance.fpPending = s.fpPending := rfl
@[simp] theorem State.advance_cp : s.advance.cp = s.cp := rfl
@[simp] theorem State.advance_cpExc : s.advance.cpExc = s.cpExc := rfl
@[simp] theorem State.advance_mem : s.advance.mem = s.mem := rfl
@[simp] theorem State.advance_irl : s.advance.irl = s.irl := rfl
@[simp] theorem State.advance_resetReq : s.advance.resetReq = s.resetReq := rfl
@[simp] theorem State.advance_storeError : s.advance.storeError = s.storeError := rfl
@[simp] theorem State.advance_fetchDoubt : s.advance.fetchDoubt = s.fetchDoubt := rfl

/-! ### delayed -/

@[simp] theorem State.delayed_cfg (a : Word) : (s.delayed a).cfg = s.cfg := rfl
@[simp] theorem State.delayed_annul (a : Word) : (s.delayed a).annul = s.annul := rfl
@[simp] theorem State.delayed_errorMode (a : Word) : (s.delayed a).errorMode = s.errorMode := rfl
@[simp] theorem State.delayed_g (a : Word) : (s.delayed a).g = s.g := rfl
@[simp] theorem State.delayed_win (a : Word) : (s.delayed a).win = s.win := rfl
@[simp] theorem State.delayed_psr (a : Word) : (s.delayed a).psr = s.psr := rfl
@[simp] theorem State.delayed_wim (a : Word) : (s.delayed a).wim = s.wim := rfl
@[simp] theorem State.delayed_tbr (a : Word) : (s.delayed a).tbr = s.tbr := rfl
@[simp] theorem State.delayed_y (a : Word) : (s.delayed a).y = s.y := rfl
@[simp] theorem State.delayed_asr (a : Word) : (s.delayed a).asr = s.asr := rfl
@[simp] theorem State.delayed_f (a : Word) : (s.delayed a).f = s.f := rfl
@[simp] theorem State.delayed_fsr (a : Word) : (s.delayed a).fsr = s.fsr := rfl
@[simp] theorem State.delayed_fq (a : Word) : (s.delayed a).fq = s.fq := rfl
@[simp] theorem State.delayed_fpPending (a : Word) : (s.delayed a).fpPending = s.fpPending := rfl
@[simp] theorem State.delayed_cp (a : Word) : (s.delayed a).cp = s.cp := rfl
@[simp] theorem State.delayed_cpExc (a : Word) : (s.delayed a).cpExc = s.cpExc := rfl
@[simp] theorem State.delayed_mem (a : Word) : (s.delayed a).mem = s.mem := rfl
@[simp] theorem State.delayed_irl (a : Word) : (s.delayed a).irl = s.irl := rfl
@[simp] theorem State.delayed_resetReq (a : Word) : (s.delayed a).resetReq = s.resetReq := rfl
@[simp] theorem State.delayed_storeError (a : Word) : (s.delayed a).storeError = s.storeError := rfl
@[simp] theorem State.delayed_fetchDoubt (a : Word) : (s.delayed a).fetchDoubt = s.fetchDoubt := rfl

/-! ### skip -/

@[simp] theorem State.skip_cfg : s.skip.cfg = s.cfg := rfl
@[simp] theorem State.skip_errorMode : s.skip.errorMode = s.errorMode := rfl
@[simp] theorem State.skip_g : s.skip.g = s.g := rfl
@[simp] theorem State.skip_win : s.skip.win = s.win := rfl
@[simp] theorem State.skip_psr : s.skip.psr = s.psr := rfl
@[simp] theorem State.skip_wim : s.skip.wim = s.wim := rfl
@[simp] theorem State.skip_tbr : s.skip.tbr = s.tbr := rfl
@[simp] theorem State.skip_y : s.skip.y = s.y := rfl
@[simp] theorem State.skip_asr : s.skip.asr = s.asr := rfl
@[simp] theorem State.skip_f : s.skip.f = s.f := rfl
@[simp] theorem State.skip_fsr : s.skip.fsr = s.fsr := rfl
@[simp] theorem State.skip_fq : s.skip.fq = s.fq := rfl
@[simp] theorem State.skip_fpPending : s.skip.fpPending = s.fpPending := rfl
@[simp] theorem State.skip_cp : s.skip.cp = s.cp := rfl
@[simp] theorem State.skip_cpExc : s.skip.cpExc = s.cpExc := rfl
@[simp] theorem State.skip_mem : s.skip.mem = s.mem := rfl
@[simp] theorem State.skip_irl : s.skip.irl = s.irl := rfl
@[simp] theorem State.skip_resetReq : s.skip.resetReq = s.resetReq := rfl
@[simp] theorem State.skip_storeError : s.skip.storeError = s.storeError := rfl
@[simp] theorem State.skip_pending : s.skip.pending = s.pending := rfl
@[simp] theorem State.skip_afterFpop2 : s.skip.afterFpop2 = s.afterFpop2 := rfl
@[simp] theorem State.skip_afterJmpl : s.skip.afterJmpl = s.afterJmpl := rfl
@[simp] theorem State.skip_ldfsrLeft : s.skip.ldfsrLeft = s.ldfsrLeft := rfl
@[simp] theorem State.skip_fetchDoubt : s.skip.fetchDoubt = s.fetchDoubt := rfl
@[simp] theorem State.skip_ibuf : s.skip.ibuf = s.ibuf := rfl

/-! ### annulNext -/

@[simp] theorem State.annulNext_cfg (a : Bool) : (s.annulNext a).cfg = s.cfg := rfl
@[simp] theorem State.annulNext_pc (a : Bool) : (s.annulNext a).pc = s.pc := rfl
@[simp] theorem State.annulNext_npc (a : Bool) : (s.annulNext a).npc = s.npc := rfl
@[simp] theorem State.annulNext_errorMode (a : Bool) : (s.annulNext a).errorMode = s.errorMode := rfl
@[simp] theorem State.annulNext_g (a : Bool) : (s.annulNext a).g = s.g := rfl
@[simp] theorem State.annulNext_win (a : Bool) : (s.annulNext a).win = s.win := rfl
@[simp] theorem State.annulNext_psr (a : Bool) : (s.annulNext a).psr = s.psr := rfl
@[simp] theorem State.annulNext_wim (a : Bool) : (s.annulNext a).wim = s.wim := rfl
@[simp] theorem State.annulNext_tbr (a : Bool) : (s.annulNext a).tbr = s.tbr := rfl
@[simp] theorem State.annulNext_y (a : Bool) : (s.annulNext a).y = s.y := rfl
@[simp] theorem State.annulNext_asr (a : Bool) : (s.annulNext a).asr = s.asr := rfl
@[simp] theorem State.annulNext_f (a : Bool) : (s.annulNext a).f = s.f := rfl
@[simp] theorem State.annulNext_fsr (a : Bool) : (s.annulNext a).fsr = s.fsr := rfl
@[simp] theorem State.annulNext_fq (a : Bool) : (s.annulNext a).fq = s.fq := rfl
@[simp] theorem State.annulNext_fpPending (a : Bool) : (s.annulNext a).fpPending = s.fpPending := rfl
@[simp] theorem State.annulNext_cp (a : Bool) : (s.annulNext a).cp = s.cp := rfl
@[simp] theorem State.annulNext_cpExc (a : Bool) : (s.annulNext a).cpExc = s.cpExc := rfl
@[simp] theorem State.annulNext_mem (a : Bool) : (s.annulNext a).mem = s.mem := rfl
@[simp] theorem State.annulNext_irl (a : Bool) : (s.annulNext a).irl = s.irl := rfl
@[simp] theorem State.annulNext_resetReq (a : Bool) : (s.annulNext a).resetReq = s.resetReq := rfl
@[simp] theorem State.annulNext_storeError (a : Bool) : (s.annulNext a).storeError = s.storeError := rfl
@[simp] theorem State.annulNext_pending (a : Bool) : (s.annulNext a).pending = s.pending := rfl
@[simp] theorem State.annulNext_afterFpop2 (a : Bool) : (s.annulNext a).afterFpop2 = s.afterFpop2 := rfl
@[simp] theorem State.annulNext_afterJmpl (a : Bool) : (s.annulNext a).afterJmpl = s.afterJmpl := rfl
@[simp] theorem State.annulNext_ldfsrLeft (a : Bool) : (s.annulNext a).ldfsrLeft = s.ldfsrLeft := rfl
@[simp] theorem State.annulNext_fetchDoubt (a : Bool) : (s.annulNext a).fetchDoubt = s.fetchDoubt := rfl
@[simp] theorem State.annulNext_ibuf (a : Bool) : (s.annulNext a).ibuf = s.ibuf := rfl
@[simp] theorem State.annulNext_freeCount (a : Bool) : (s.annulNext a).freeCount = s.freeCount := rfl

/-! ### markJmpl -/

@[simp] theorem State.markJmpl_cfg : s.markJmpl.cfg = s.cfg := rfl
@[simp] theorem State.markJmpl_pc : s.markJmpl.pc = s.pc := rfl
@[simp] theorem State.markJmpl_npc : s.markJmpl.npc = s.npc := rfl
@[simp] theorem State.markJmpl_annul : s.markJmpl.annul = s.annul := rfl
@[simp] theorem State.markJmpl_errorMode : s.markJmpl.errorMode = s.errorMode := rfl
@[simp] theorem State.markJmpl_g : s.markJmpl.g = s.g := rfl
@[simp] theorem State.markJmpl_win : s.markJmpl.win = s.win := rfl
@[simp] theorem State.markJmpl_psr : s.markJmpl.psr = s.psr := rfl
@[simp] theorem State.markJmpl_wim : s.markJmpl.wim = s.wim := rfl
@[simp] theorem State.markJmpl_tbr : s.markJmpl.tbr = s.tbr := rfl
@[simp] theorem State.markJmpl_y : s.markJmpl.y = s.y := rfl
@[simp] theorem State.markJmpl_asr : s.markJmpl.asr = s.asr := rfl
@[simp] theorem State.markJmpl_f : s.markJmpl.f = s.f := rfl
@[simp] theorem State.markJmpl_fsr : s.markJmpl.fsr = s.fsr := rfl
@[simp] theorem State.markJmpl_fq : s.markJmpl.fq = s.fq := rfl
@[simp] theorem State.markJmpl_fpPending : s.markJmpl.fpPending = s.fpPending := rfl
@[simp] theorem State.markJmpl_cp : s.markJmpl.cp = s.cp := rfl
@[simp] theorem State.markJmpl_cpExc : s.markJmpl.cpExc = s.cpExc := rfl
@[simp] theorem State.markJmpl_mem : s.markJmpl.mem = s.mem := rfl
@[simp] theorem State.markJmpl_irl : s.markJmpl.irl = s.irl := rfl
@[simp] theorem State.markJmpl_resetReq : s.markJmpl.resetReq = s.resetReq := rfl
@[simp] theorem State.markJmpl_storeError : s.markJmpl.storeError = s.storeError := rfl
@[simp] theorem State.markJmpl_pending : s.markJmpl.pending = s.pending := rfl
@[simp] theorem State.markJmpl_afterFpop2 : s.markJmpl.afterFpop2 = s.afterFpop2 := rfl
@[simp] theorem State.markJmpl_ldfsrLeft : s.markJmpl.ldfsrLeft = s.ldfsrLeft := rfl
@[simp] theorem State.markJmpl_fetchDoubt : s.markJmpl.fetchDoubt = s.fetchDoubt := rfl
@[simp] theorem State.markJmpl_ibuf : s.markJmpl.ibuf = s.ibuf := rfl
@[simp] theorem State.markJmpl_freeCount : s.markJmpl.freeCount = s.freeCount := rfl

/-! ### markFpop2 -/

@[simp] theorem State.markFpop2_cfg : s.markFpop2.cfg = s.cfg := rfl
@[simp] theorem State.markFpop2_pc : s.markFpop2.pc = s.pc := rfl
@[simp] theorem State.markFpop2_npc : s.markFpop2.npc = s.npc := rfl
@[simp] theorem State.markFpop2_annul : s.markFpop2.annul = s.annul := rfl
@[simp] theorem State.markFpop2_errorMode : s.markFpop2.errorMode = s.errorMode := rfl
@[simp] theorem State.markFpop2_g : s.markFpop2.g = s.g := rfl
@[simp] theorem State.markFpop2_win : s.markFpop2.win = s.win := rfl
@[simp] theorem State.markFpop2_psr : s.markFpop2.psr = s.psr := rfl
@[simp] theorem State.markFpop2_wim : s.markFpop2.wim = s.wim := rfl
@[simp] theorem State.markFpop2_tbr : s.markFpop2.tbr = s.tbr := rfl
@[simp] theorem State.markFpop2_y : s.markFpop2.y = s.y := rfl
@[simp] theorem State.markFpop2_asr : s.markFpop2.asr = s.asr := rfl
@[simp] theorem State.markFpop2_f : s.markFpop2.f = s.f := rfl
@[simp] theorem State.markFpop2_fsr : s.markFpop2.fsr = s.fsr := rfl
@[simp] theorem State.markFpop2_fq : s.markFpop2.fq = s.fq := rfl
@[simp] theorem State.markFpop2_fpPending : s.markFpop2.fpPending = s.fpPending := rfl
@[simp] theorem State.markFpop2_cp : s.markFpop2.cp = s.cp := rfl
@[simp] theorem State.markFpop2_cpExc : s.markFpop2.cpExc = s.cpExc := rfl
@[simp] theorem State.markFpop2_mem : s.markFpop2.mem = s.mem := rfl
@[simp] theorem State.markFpop2_irl : s.markFpop2.irl = s.irl := rfl
@[simp] theorem State.markFpop2_resetReq : s.markFpop2.resetReq = s.resetReq := rfl
@[simp] theorem State.markFpop2_storeError : s.markFpop2.storeError = s.storeError := rfl
@[simp] theorem State.markFpop2_pending : s.markFpop2.pending = s.pending := rfl
@[simp] theorem State.markFpop2_afterJmpl : s.markFpop2.afterJmpl = s.afterJmpl := rfl
@[simp] theorem State.markFpop2_ldfsrLeft : s.markFpop2.ldfsrLeft = s.ldfsrLeft := rfl
@[simp] theorem State.markFpop2_fetchDoubt : s.markFpop2.fetchDoubt = s.fetchDoubt := rfl
@[simp] theorem State.markFpop2_ibuf : s.markFpop2.ibuf = s.ibuf := rfl
@[simp] theorem State.markFpop2_freeCount : s.markFpop2.freeCount = s.freeCount := rfl

/-! ### openWindow -/

@[simp] theorem State.openWindow_cfg (r : StateReg) (a b : Word) : (s.openWindow r a b).cfg = s.cfg := rfl
@[simp] theorem State.openWindow_pc (r : StateReg) (a b : Word) : (s.openWindow r a b).pc = s.pc := rfl
@[simp] theorem State.openWindow_npc (r : StateReg) (a b : Word) : (s.openWindow r a b).npc = s.npc := rfl
@[simp] theorem State.openWindow_annul (r : StateReg) (a b : Word) : (s.openWindow r a b).annul = s.annul := rfl
@[simp] theorem State.openWindow_errorMode (r : StateReg) (a b : Word) : (s.openWindow r a b).errorMode = s.errorMode := rfl
@[simp] theorem State.openWindow_g (r : StateReg) (a b : Word) : (s.openWindow r a b).g = s.g := rfl
@[simp] theorem State.openWindow_win (r : StateReg) (a b : Word) : (s.openWindow r a b).win = s.win := rfl
@[simp] theorem State.openWindow_psr (r : StateReg) (a b : Word) : (s.openWindow r a b).psr = s.psr := rfl
@[simp] theorem State.openWindow_wim (r : StateReg) (a b : Word) : (s.openWindow r a b).wim = s.wim := rfl
@[simp] theorem State.openWindow_tbr (r : StateReg) (a b : Word) : (s.openWindow r a b).tbr = s.tbr := rfl
@[simp] theorem State.openWindow_y (r : StateReg) (a b : Word) : (s.openWindow r a b).y = s.y := rfl
@[simp] theorem State.openWindow_asr (r : StateReg) (a b : Word) : (s.openWindow r a b).asr = s.asr := rfl
@[simp] theorem State.openWindow_f (r : StateReg) (a b : Word) : (s.openWindow r a b).f = s.f := rfl
@[simp] theorem State.openWindow_fsr (r : StateReg) (a b : Word) : (s.openWindow r a b).fsr = s.fsr := rfl
@[simp] theorem State.openWindow_fq (r : StateReg) (a b : Word) : (s.openWindow r a b).fq = s.fq := rfl
@[simp] theorem State.openWindow_fpPending (r : StateReg) (a b : Word) : (s.openWindow r a b).fpPending = s.fpPending := rfl
@[simp] theorem State.openWindow_cp (r : StateReg) (a b : Word) : (s.openWindow r a b).cp = s.cp := rfl
@[simp] theorem State.openWindow_cpExc (r : StateReg) (a b : Word) : (s.openWindow r a b).cpExc = s.cpExc := rfl
@[simp] theorem State.openWindow_mem (r : StateReg) (a b : Word) : (s.openWindow r a b).mem = s.mem := rfl
@[simp] theorem State.openWindow_irl (r : StateReg) (a b : Word) : (s.openWindow r a b).irl = s.irl := rfl
@[simp] theorem State.openWindow_resetReq (r : StateReg) (a b : Word) : (s.openWindow r a b).resetReq = s.resetReq := rfl
@[simp] theorem State.openWindow_storeError (r : StateReg) (a b : Word) : (s.openWindow r a b).storeError = s.storeError := rfl
@[simp] theorem State.openWindow_afterFpop2 (r : StateReg) (a b : Word) : (s.openWindow r a b).afterFpop2 = s.afterFpop2 := rfl
@[simp] theorem State.openWindow_afterJmpl (r : StateReg) (a b : Word) : (s.openWindow r a b).afterJmpl = s.afterJmpl := rfl
@[simp] theorem State.openWindow_ldfsrLeft (r : StateReg) (a b : Word) : (s.openWindow r a b).ldfsrLeft = s.ldfsrLeft := rfl
@[simp] theorem State.openWindow_fetchDoubt (r : StateReg) (a b : Word) : (s.openWindow r a b).fetchDoubt = s.fetchDoubt := rfl
@[simp] theorem State.openWindow_ibuf (r : StateReg) (a b : Word) : (s.openWindow r a b).ibuf = s.ibuf := rfl
@[simp] theorem State.openWindow_freeCount (r : StateReg) (a b : Word) : (s.openWindow r a b).freeCount = s.freeCount := rfl

/-! ### writeIcc -/

@[simp] theorem State.writeIcc_cfg (i : Icc) : (s.writeIcc i).cfg = s.cfg := by unfold State.writeIcc; split <;> rfl
@[simp] theorem State.writeIcc_pc (i : Icc) : (s.writeIcc i).pc = s.pc := by unfold State.writeIcc; split <;> rfl
@[simp] theorem State.writeIcc_npc (i : Icc) : (s.writeIcc i).npc = s.npc := by unfold State.writeIcc; split <;> rfl
@[simp] theorem State.writeIcc_annul (i : Icc) : (s.writeIcc i).annul = s.annul := by unfold State.writeIcc; split <;> rfl
@[simp] theorem State.writeIcc_errorMode (i : Icc) : (s.writeIcc i).errorMode = s.errorMode := by unfold State.writeIcc; split <;> rfl
@[simp] theorem State.writeIcc_g (i : Icc) : (s.writeIcc i).g = s.g := by unfold State.writeIcc; split <;> rfl
@[simp] theorem State.writeIcc_win (i : Icc) : (s.writeIcc i).win = s.win := by unfold State.writeIcc; split <;> rfl
@[simp] theorem State.writeIcc_wim (i : Icc) : (s.writeIcc i).wim = s.wim := by unfold State.writeIcc; split <;> rfl
@[simp] theorem State.writeIcc_tbr (i : Icc) : (s.writeIcc i).tbr = s.tbr := by unfold State.writeIcc; split <;> rfl
@[simp] theorem State.writeIcc_y (i : Icc) : (s.writeIcc i).y = s.y := by unfold State.writeIcc; split <;> rfl
@[simp] theorem State.writeIcc_asr (i : Icc) : (s.writeIcc i).asr = s.asr := by unfold State.writeIcc; split <;> rfl
@[simp] theorem State.writeIcc_f (i : Icc) : (s.writeIcc i).f = s.f := by unfold State.writeIcc; split <;> rfl
@[simp] theorem State.writeIcc_fsr (i : Icc) : (s.writeIcc i).fsr = s.fsr := by unfold State.writeIcc; split <;> rfl
@[simp] theorem State.writeIcc_fq (i : Icc) : (s.writeIcc i).fq = s.fq := by unfold State.writeIcc; split <;> rfl
@[simp] theorem State.writeIcc_fpPending (i : Icc) : (s.writeIcc i).fpPending = s.fpPending := by unfold State.writeIcc; split <;> rfl
@[simp] theorem State.writeIcc_cp (i : Icc) : (s.writeIcc i).cp = s.cp := by unfold State.writeIcc; split <;> rfl
@[simp] theorem State.writeIcc_cpExc (i : Icc) : (s.writeIcc i).cpExc = s.cpExc := by unfold State.writeIcc; split <;> rfl
@[simp] theorem State.writeIcc_mem (i : Icc) : (s.writeIcc i).mem = s.mem := by unfold State.writeIcc; split <;> rfl
@[simp] theorem State.writeIcc_irl (i : Icc) : (s.writeIcc i).irl = s.irl := by unfold State.writeIcc; split <;> rfl
@[simp] theorem State.writeIcc_resetReq (i : Icc) : (s.writeIcc i).resetReq = s.resetReq := by unfold State.writeIcc; split <;> rfl
@[simp] theorem State.writeIcc_storeError (i : Icc) : (s.writeIcc i).storeError = s.storeError := by unfold State.writeIcc; split <;> rfl
@[simp] theorem State.writeIcc_afterFpop2 (i : Icc) : (s.writeIcc i).afterFpop2 = s.afterFpop2 := by unfold State.writeIcc; split <;> rfl
@[simp] theorem State.writeIcc_afterJmpl (i : Icc) : (s.writeIcc i).afterJmpl = s.afterJmpl := by unfold State.writeIcc; split <;> rfl
@[simp] theorem State.writeIcc_ldfsrLeft (i : Icc) : (s.writeIcc i).ldfsrLeft = s.ldfsrLeft := by unfold State.writeIcc; split <;> rfl
@[simp] theorem State.writeIcc_fetchDoubt (i : Icc) : (s.writeIcc i).fetchDoubt = s.fetchDoubt := by unfold State.writeIcc; split <;> rfl
@[simp] theorem State.writeIcc_ibuf (i : Icc) : (s.writeIcc i).ibuf = s.ibuf := by unfold State.writeIcc; split <;> rfl
@[simp] theorem State.writeIcc_freeCount (i : Icc) : (s.writeIcc i).freeCount = s.freeCount := by unfold State.writeIcc; split <;> rfl
@[simp] theorem State.writeIcc_psr_ec (i : Icc) : (s.writeIcc i).psr.ec = s.psr.ec := by unfold State.writeIcc; split <;> rfl
@[simp] theorem State.writeIcc_psr_ef (i : Icc) : (s.writeIcc i).psr.ef = s.psr.ef := by unfold State.writeIcc; split <;> rfl
@[simp] theorem State.writeIcc_psr_pil (i : Icc) : (s.writeIcc i).psr.pil = s.psr.pil := by unfold State.writeIcc; split <;> rfl
@[simp] theorem State.writeIcc_psr_s (i : Icc) : (s.writeIcc i).psr.s = s.psr.s := by unfold State.writeIcc; split <;> rfl
@[simp] theorem State.writeIcc_psr_ps (i : Icc) : (s.writeIcc i).psr.ps = s.psr.ps := by unfold State.writeIcc; split <;> rfl
@[simp] theorem State.writeIcc_psr_et (i : Icc) : (s.writeIcc i).psr.et = s.psr.et := by unfold State.writeIcc; split <;> rfl
@[simp] theorem State.writeIcc_psr_cwp (i : Icc) : (s.writeIcc i).psr.cwp = s.psr.cwp := by unfold State.writeIcc; split <;> rfl

/-! ### writeCwp -/

@[simp] theorem State.writeCwp_cfg (w : BitVec 5) : (s.writeCwp w).cfg = s.cfg := by unfold State.writeCwp; split <;> rfl
@[simp] theorem State.writeCwp_pc (w : BitVec 5) : (s.writeCwp w).pc = s.pc := by unfold State.writeCwp; split <;> rfl
@[simp] theorem State.writeCwp_npc (w : BitVec 5) : (s.writeCwp w).npc = s.npc := by unfold State.writeCwp; split <;> rfl
@[simp] theorem State.writeCwp_annul (w : BitVec 5) : (s.writeCwp w).annul = s.annul := by unfold State.writeCwp; split <;> rfl
@[simp] theorem State.writeCwp_errorMode (w : BitVec 5) : (s.writeCwp w).errorMode = s.errorMode := by unfold State.writeCwp; split <;> rfl
@[simp] theorem State.writeCwp_g (w : BitVec 5) : (s.writeCwp w).g = s.g := by unfold State.writeCwp; split <;> rfl
@[simp] theorem State.writeCwp_win (w : BitVec 5) : (s.writeCwp w).win = s.win := by unfold State.writeCwp; split <;> rfl
@[simp] theorem State.writeCwp_wim (w : BitVec 5) : (s.writeCwp w).wim = s.wim := by unfold State.writeCwp; split <;> rfl
@[simp] theorem State.writeCwp_tbr (w : BitVec 5) : (s.writeCwp w).tbr = s.tbr := by unfold State.writeCwp; split <;> rfl
@[simp] theorem State.writeCwp_y (w : BitVec 5) : (s.writeCwp w).y = s.y := by unfold State.writeCwp; split <;> rfl
@[simp] theorem State.writeCwp_asr (w : BitVec 5) : (s.writeCwp w).asr = s.asr := by unfold State.writeCwp; split <;> rfl
@[simp] theorem State.writeCwp_f (w : BitVec 5) : (s.writeCwp w).f = s.f := by unfold State.writeCwp; split <;> rfl
@[simp] theorem State.writeCwp_fsr (w : BitVec 5) : (s.writeCwp w).fsr = s.fsr := by unfold State.writeCwp; split <;> rfl
@[simp] theorem State.writeCwp_fq (w : BitVec 5) : (s.writeCwp w).fq = s.fq := by unfold State.writeCwp; split <;> rfl
@[simp] theorem State.writeCwp_fpPending (w : BitVec 5) : (s.writeCwp w).fpPending = s.fpPending := by unfold State.writeCwp; split <;> rfl
@[simp] theorem State.writeCwp_cp (w : BitVec 5) : (s.writeCwp w).cp = s.cp := by unfold State.writeCwp; split <;> rfl
@[simp] theorem State.writeCwp_cpExc (w : BitVec 5) : (s.writeCwp w).cpExc = s.cpExc := by unfold State.writeCwp; split <;> rfl
@[simp] theorem State.writeCwp_mem (w : BitVec 5) : (s.writeCwp w).mem = s.mem := by unfold State.writeCwp; split <;> rfl
@[simp] theorem State.writeCwp_irl (w : BitVec 5) : (s.writeCwp w).irl = s.irl := by unfold State.writeCwp; split <;> rfl
@[simp] theorem State.writeCwp_resetReq (w : BitVec 5) : (s.writeCwp w).resetReq = s.resetReq := by unfold State.writeCwp; split <;> rfl
@[simp] theorem State.writeCwp_storeError (w : BitVec 5) : (s.writeCwp w).storeError = s.storeError := by unfold State.writeCwp; split <;> rfl
@[simp] theorem State.writeCwp_afterFpop2 (w : BitVec 5) : (s.writeCwp w).afterFpop2 = s.afterFpop2 := by unfold State.writeCwp; split <;> rfl
@[simp] theorem State.writeCwp_afterJmpl (w : BitVec 5) : (s.writeCwp w).afterJmpl = s.afterJmpl := by unfold State.writeCwp; split <;> rfl
@[simp] theorem State.writeCwp_ldfsrLeft (w : BitVec 5) : (s.writeCwp w).ldfsrLeft = s.ldfsrLeft := by unfold State.writeCwp; split <;> rfl
@[simp] theorem State.writeCwp_fetchDoubt (w : BitVec 5) : (s.writeCwp w).fetchDoubt = s.fetchDoubt := by unfold State.writeCwp; split <;> rfl
@[simp] theorem State.writeCwp_ibuf (w : BitVec 5) : (s.writeCwp w).ibuf = s.ibuf := by unfold State.writeCwp; split <;> rfl
@[simp] theorem State.writeCwp_freeCount (w : BitVec 5) : (s.writeCwp w).freeCount = s.freeCount := by unfold State.writeCwp; split <;> rfl
@[simp] theorem State.writeCwp_psr_icc (w : BitVec 5) : (s.writeCwp w).psr.icc = s.psr.icc := by unfold State.writeCwp; split <;> rfl
@[simp] theorem State.writeCwp_psr_ec (w : BitVec 5) : (s.writeCwp w).psr.ec = s.psr.ec := by unfold State.writeCwp; split <;> rfl
@[simp] theorem State.writeCwp_psr_ef (w : BitVec 5) : (s.writeCwp w).psr.ef = s.psr.ef := by unfold State.writeCwp; split <;> rfl
@[simp] theorem State.writeCwp_psr_pil (w : BitVec 5) : (s.writeCwp w).psr.pil = s.psr.pil := by unfold State.writeCwp; split <;> rfl
@[simp] theorem State.writeCwp_psr_s (w : BitVec 5) : (s.writeCwp w).psr.s = s.psr.s := by unfold State.writeCwp; split <;> rfl
@[simp] theorem State.writeCwp_psr_ps (w : BitVec 5) : (s.writeCwp w).psr.ps = s.psr.ps := by unfold State.writeCwp; split <;> rfl
@[simp] theorem State.writeCwp_psr_et (w : BitVec 5) : (s.writeCwp w).psr.et = s.psr.et := by unfold State.writeCwp; split <;> rfl

/-! ### writeY -/

@[simp] theorem State.writeY_cfg (v : Word) : (s.writeY v).cfg = s.cfg := by unfold State.writeY; split <;> rfl
@[simp] theorem State.writeY_pc (v : Word) : (s.writeY v).pc = s.pc := by unfold State.writeY; split <;> rfl
@[simp] theorem State.writeY_npc (v : Word) : (s.writeY v).npc = s.npc := by unfold State.writeY; split <;> rfl
@[simp] theorem State.writeY_annul (v : Word) : (s.writeY v).annul = s.annul := by unfold State.writeY; split <;> rfl
@[simp] theorem State.writeY_errorMode (v : Word) : (s.writeY v).errorMode = s.errorMode := by unfold State.writeY; split <;> rfl
@[simp] theorem State.writeY_g (v : Word) : (s.writeY v).g = s.g := by unfold State.writeY; split <;> rfl
@[simp] theorem State.writeY_win (v : Word) : (s.writeY v).win = s.win := by unfold State.writeY; split <;> rfl
@[simp] theorem State.writeY_psr (v : Word) : (s.writeY v).psr = s.psr := by unfold State.writeY; split <;> rfl
@[simp] theorem State.writeY_wim (v : Word) : (s.writeY v).wim = s.wim := by unfold State.writeY; split <;> rfl
@[simp] theorem State.writeY_tbr (v : Word) : (s.writeY v).tbr = s.tbr := by unfold State.writeY; split <;> rfl
@[simp] theorem State.writeY_asr (v : Word) : (s.writeY v).asr = s.asr := by unfold State.writeY; split <;> rfl
@[simp] theorem State.writeY_f (v : Word) : (s.writeY v).f = s.f := by unfold State.writeY; split <;> rfl
@[simp] theorem State.writeY_fsr (v : Word) : (s.writeY v).fsr = s.fsr := by unfold State.writeY; split <;> rfl
@[simp] theorem State.writeY_fq (v : Word) : (s.writeY v).fq = s.fq := by unfold State.writeY; split <;> rfl
@[simp] theorem State.writeY_fpPending (v : Word) : (s.writeY v).fpPending = s.fpPending := by unfold State.writeY; split <;> rfl
@[simp] theorem State.writeY_cp (v : Word) : (s.writeY v).cp = s.cp := by unfold State.writeY; split <;> rfl
@[simp] theorem State.writeY_cpExc (v : Word) : (s.writeY v).cpExc = s.cpExc := by unfold State.writeY; split <;> rfl
@[simp] theorem State.writeY_mem (v : Word) : (s.writeY v).mem = s.mem := by unfold State.writeY; split <;> rfl
@[simp] theorem State.writeY_irl (v : Word) : (s.writeY v).irl = s.irl := by unfold State.writeY; split <;> rfl
@[simp] theorem State.writeY_resetReq (v : Word) : (s.writeY v).resetReq = s.resetReq := by unfold State.writeY; split <;> rfl
@[simp] theorem State.writeY_storeError (v : Word) : (s.writeY v).storeError = s.storeError := by unfold State.writeY; split <;> rfl
@[simp] theorem State.writeY_afterFpop2 (v : Word) : (s.writeY v).afterFpop2 = s.afterFpop2 := by unfold State.writeY; split <;> rfl
@[simp] theorem State.writeY_afterJmpl (v : Word) : (s.writeY v).afterJmpl = s.afterJmpl := by unfold State.writeY; split <;> rfl
@[simp] theorem State.writeY_ldfsrLeft (v : Word) : (s.writeY v).ldfsrLeft = s.ldfsrLeft := by unfold State.writeY; split <;> rfl
@[simp] theorem State.writeY_fetchDoubt (v : Word) : (s.writeY v).fetchDoubt = s.fetchDoubt := by unfold State.writeY; split <;> rfl
@[simp] theorem State.writeY_ibuf (v : Word) : (s.writeY v).ibuf = s.ibuf := by unfold State.writeY; split <;> rfl
@[simp] theorem State.writeY_freeCount (v : Word) : (s.writeY v).freeCount = s.freeCount := by unfold State.writeY; split <;> rfl

/-! ### writeRW -/

@[simp] theorem State.writeRW_cfg (w : BitVec 5) (n : RegNum) (v : Word) : (s.writeRW w n v).cfg = s.cfg := by unfold State.writeRW; split; rfl; split <;> rfl
@[simp] theorem State.writeRW_pc (w : BitVec 5) (n : RegNum) (v : Word) : (s.writeRW w n v).pc = s.pc := by unfold State.writeRW; split; rfl; split <;> rfl
@[simp] theorem State.writeRW_npc (w : BitVec 5) (n : RegNum) (v : Word) : (s.writeRW w n v).npc = s.npc := by unfold State.writeRW; split; rfl; split <;> rfl
@[simp] theorem State.writeRW_annul (w : BitVec 5) (n : RegNum) (v : Word) : (s.writeRW w n v).annul = s.annul := by unfold State.writeRW; split; rfl; split <;> rfl
@[simp] theorem State.writeRW_errorMode (w : BitVec 5) (n : RegNum) (v : Word) : (s.writeRW w n v).errorMode = s.errorMode := by unfold State.writeRW; split; rfl; split <;> rfl
@[simp] theorem State.writeRW_psr (w : BitVec 5) (n : RegNum) (v : Word) : (s.writeRW w n v).psr = s.psr := by unfold State.writeRW; split; rfl; split <;> rfl
@[simp] theorem State.writeRW_wim (w : BitVec 5) (n : RegNum) (v : Word) : (s.writeRW w n v).wim = s.wim := by unfold State.writeRW; split; rfl; split <;> rfl
@[simp] theorem State.writeRW_tbr (w : BitVec 5) (n : RegNum) (v : Word) : (s.writeRW w n v).tbr = s.tbr := by unfold State.writeRW; split; rfl; split <;> rfl
@[simp] theorem State.writeRW_y (w : BitVec 5) (n : RegNum) (v : Word) : (s.writeRW w n v).y = s.y := by unfold State.writeRW; split; rfl; split <;> rfl
@[simp] theorem State.writeRW_asr (w : BitVec 5) (n : RegNum) (v : Word) : (s.writeRW w n v).asr = s.asr := by unfold State.writeRW; split; rfl; split <;> rfl
@[simp] theorem State.writeRW_f (w : BitVec 5) (n : RegNum) (v : Word) : (s.writeRW w n v).f = s.f := by unfold State.writeRW; split; rfl; split <;> rfl
@[simp] theorem State.writeRW_fsr (w : BitVec 5) (n : RegNum) (v : Word) : (s.writeRW w n v).fsr = s.fsr := by unfold State.writeRW; split; rfl; split <;> rfl
@[simp] theorem State.writeRW_fq (w : BitVec 5) (n : RegNum) (v : Word) : (s.writeRW w n v).fq = s.fq := by unfold State.writeRW; split; rfl; split <;> rfl
@[simp] theorem State.writeRW_fpPending (w : BitVec 5) (n : RegNum) (v : Word) : (s.writeRW w n v).fpPending = s.fpPending := by unfold State.writeRW; split; rfl; split <;> rfl
@[simp] theorem State.writeRW_cp (w : BitVec 5) (n : RegNum) (v : Word) : (s.writeRW w n v).cp = s.cp := by unfold State.writeRW; split; rfl; split <;> rfl
@[simp] theorem State.writeRW_cpExc (w : BitVec 5) (n : RegNum) (v : Word) : (s.writeRW w n v).cpExc = s.cpExc := by unfold State.writeRW; split; rfl; split <;> rfl
@[simp] theorem State.writeRW_mem (w : BitVec 5) (n : RegNum) (v : Word) : (s.writeRW w n v).mem = s.mem := by unfold State.writeRW; split; rfl; split <;> rfl
@[simp] theorem State.writeRW_irl (w : BitVec 5) (n : RegNum) (v : Word) : (s.writeRW w n v).irl = s.irl := by unfold State.writeRW; split; rfl; split <;> rfl
@[simp] theorem State.writeRW_resetReq (w : BitVec 5) (n : RegNum) (v : Word) : (s.writeRW w n v).resetReq = s.resetReq := by unfold State.writeRW; split; rfl; split <;> rfl
@[simp] theorem State.writeRW_storeError (w : BitVec 5) (n : RegNum) (v : Word) : (s.writeRW w n v).storeError = s.storeError := by unfold State.writeRW; split; rfl; split <;> rfl
@[simp] theorem State.writeRW_pending (w : BitVec 5) (n : RegNum) (v : Word) : (s.writeRW w n v).pending = s.pending := by unfold State.writeRW; split; rfl; split <;> rfl
@[simp] theorem State.writeRW_afterFpop2 (w : BitVec 5) (n : RegNum) (v : Word) : (s.writeRW w n v).afterFpop2 = s.afterFpop2 := by unfold State.writeRW; split; rfl; split <;> rfl
@[simp] theorem State.writeRW_afterJmpl (w : BitVec 5) (n : RegNum) (v : Word) : (s.writeRW w n v).afterJmpl = s.afterJmpl := by unfold State.writeRW; split; rfl; split <;> rfl
@[simp] theorem State.writeRW_ldfsrLeft (w : BitVec 5) (n : RegNum) (v : Word) : (s.writeRW w n v).ldfsrLeft = s.ldfsrLeft := by unfold State.writeRW; split; rfl; split <;> rfl
@[simp] theorem State.writeRW_fetchDoubt (w : BitVec 5) (n : RegNum) (v : Word) : (s.writeRW w n v).fetchDoubt = s.fetchDoubt := by unfold State.writeRW; split; rfl; split <;> rfl
@[simp] theorem State.writeRW_ibuf (w : BitVec 5) (n : RegNum) (v : Word) : (s.writeRW w n v).ibuf = s.ibuf := by unfold State.writeRW; split; rfl; split <;> rfl
@[simp] theorem State.writeRW_freeCount (w : BitVec 5) (n : RegNum) (v : Word) : (s.writeRW w n v).freeCount = s.freeCount := by unfold State.writeRW; split; rfl; split <;> rfl

/-! ### writeR -/

@[simp] theorem State.writeR_cfg (n : RegNum) (v : Word) : (s.writeR n v).cfg = s.cfg := State.writeRW_cfg s _ n v
@[simp] theorem State.writeR_pc (n : RegNum) (v : Word) : (s.writeR n v).pc = s.pc := State.writeRW_pc s _ n v
@[simp] theorem State.writeR_npc (n : RegNum) (v : Word) : (s.writeR n v).npc = s.npc := State.writeRW_npc s _ n v
@[simp] theorem State.writeR_annul (n : RegNum) (v : Word) : (s.writeR n v).annul = s.annul := State.writeRW_annul s _ n v
@[simp] theorem State.writeR_errorMode (n : RegNum) (v : Word) : (s.writeR n v).errorMode = s.errorMode := State.writeRW_errorMode s _ n v
@[simp] theorem State.writeR_psr (n : RegNum) (v : Word) : (s.writeR n v).psr = s.psr := State.writeRW_psr s _ n v
@[simp] theorem State.writeR_wim (n : RegNum) (v : Word) : (s.writeR n v).wim = s.wim := State.writeRW_wim s _ n v
@[simp] theorem State.writeR_tbr (n : RegNum) (v : Word) : (s.writeR n v).tbr = s.tbr := State.writeRW_tbr s _ n v
@[simp] theorem State.writeR_y (n : RegNum) (v : Word) : (s.writeR n v).y = s.y := State.writeRW_y s _ n v
@[simp] theorem State.writeR_asr (n : RegNum) (v : Word) : (s.writeR n v).asr = s.asr := State.writeRW_asr s _ n v
@[simp] theorem State.writeR_f (n : RegNum) (v : Word) : (s.writeR n v).f = s.f := State.writeRW_f s _ n v
@[simp] theorem State.writeR_fsr (n : RegNum) (v : Word) : (s.writeR n v).fsr = s.fsr := State.writeRW_fsr s _ n v
@[simp] theorem State.writeR_fq (n : RegNum) (v : Word) : (s.writeR n v).fq = s.fq := State.writeRW_fq s _ n v
@[simp] theorem State.writeR_fpPending (n : RegNum) (v : Word) : (s.writeR n v).fpPending = s.fpPending := State.writeRW_fpPending s _ n v
@[simp] theorem State.writeR_cp (n : RegNum) (v : Word) : (s.writeR n v).cp = s.cp := State.writeRW_cp s _ n v
@[simp] theorem State.writeR_cpExc (n : RegNum) (v : Word) : (s.writeR n v).cpExc = s.cpExc := State.writeRW_cpExc s _ n v
@[simp] theorem State.writeR_mem (n : RegNum) (v : Word) : (s.writeR n v).mem = s.mem := State.writeRW_mem s _ n v
@[simp] theorem State.writeR_irl (n : RegNum) (v : Word) : (s.writeR n v).irl = s.irl := State.writeRW_irl s _ n v
@[simp] theorem State.writeR_resetReq (n : RegNum) (v : Word) : (s.writeR n v).resetReq = s.resetReq := State.writeRW_resetReq s _ n v
@[simp] theorem State.writeR_storeError (n : RegNum) (v : Word) : (s.writeR n v).storeError = s.storeError := State.writeRW_storeError s _ n v
@[simp] theorem State.writeR_pending (n : RegNum) (v : Word) : (s.writeR n v).pending = s.pending := State.writeRW_pending s _ n v
@[simp] theorem State.writeR_afterFpop2 (n : RegNum) (v : Word) : (s.writeR n v).afterFpop2 = s.afterFpop2 := State.writeRW_afterFpop2 s _ n v
@[simp] theorem State.writeR_afterJmpl (n : RegNum) (v : Word) : (s.writeR n v).afterJmpl = s.afterJmpl := State.writeRW_afterJmpl s _ n v
@[simp] theorem State.writeR_ldfsrLeft (n : RegNum) (v : Word) : (s.writeR n v).ldfsrLeft = s.ldfsrLeft := State.writeRW_ldfsrLeft s _ n v
@[simp] theorem State.writeR_fetchDoubt (n : RegNum) (v : Word) : (s.writeR n v).fetchDoubt = s.fetchDoubt := State.writeRW_fetchDoubt s _ n v
@[simp] theorem State.writeR_ibuf (n : RegNum) (v : Word) : (s.writeR n v).ibuf = s.ibuf := State.writeRW_ibuf s _ n v
@[simp] theorem State.writeR_freeCount (n : RegNum) (v : Word) : (s.writeR n v).freeCount = s.freeCount := State.writeRW_freeCount s _ n v

/-! ### writeRPair -/

@[simp] theorem State.writeRPair_cfg (n : RegNum) (v : Dword) : (s.writeRPair n v).cfg = s.cfg := by simp only [State.writeRPair, State.writeR_cfg]
@[simp] theorem State.writeRPair_pc (n : RegNum) (v : Dword) : (s.writeRPair n v).pc = s.pc := by simp only [State.writeRPair, State.writeR_pc]
@[simp] theorem State.writeRPair_npc (n : RegNum) (v : Dword) : (s.writeRPair n v).npc = s.npc := by simp only [State.writeRPair, State.writeR_npc]
@[simp] theorem State.writeRPair_annul (n : RegNum) (v : Dword) : (s.writeRPair n v).annul = s.annul := by simp only [State.writeRPair, State.writeR_annul]
@[simp] theorem State.writeRPair_errorMode (n : RegNum) (v : Dword) : (s.writeRPair n v).errorMode = s.errorMode := by simp only [State.writeRPair, State.writeR_errorMode]
@[simp] theorem State.writeRPair_psr (n : RegNum) (v : Dword) : (s.writeRPair n v).psr = s.psr := by simp only [State.writeRPair, State.writeR_psr]
@[simp] theorem State.writeRPair_wim (n : RegNum) (v : Dword) : (s.writeRPair n v).wim = s.wim := by simp only [State.writeRPair, State.writeR_wim]
@[simp] theorem State.writeRPair_tbr (n : RegNum) (v : Dword) : (s.writeRPair n v).tbr = s.tbr := by simp only [State.writeRPair, State.writeR_tbr]
@[simp] theorem State.writeRPair_y (n : RegNum) (v : Dword) : (s.writeRPair n v).y = s.y := by simp only [State.writeRPair, State.writeR_y]
@[simp] theorem State.writeRPair_asr (n : RegNum) (v : Dword) : (s.writeRPair n v).asr = s.asr := by simp only [State.writeRPair, State.writeR_asr]
@[simp] theorem State.writeRPair_f (n : RegNum) (v : Dword) : (s.writeRPair n v).f = s.f := by simp only [State.writeRPair, State.writeR_f]
@[simp] theorem State.writeRPair_fsr (n : RegNum) (v : Dword) : (s.writeRPair n v).fsr = s.fsr := by simp only [State.writeRPair, State.writeR_fsr]
@[simp] theorem State.writeRPair_fq (n : RegNum) (v : Dword) : (s.writeRPair n v).fq = s.fq := by simp only [State.writeRPair, State.writeR_fq]
@[simp] theorem State.writeRPair_fpPending (n : RegNum) (v : Dword) : (s.writeRPair n v).fpPending = s.fpPending := by simp only [State.writeRPair, State.writeR_fpPending]
@[simp] theorem State.writeRPair_cp (n : RegNum) (v : Dword) : (s.writeRPair n v).cp = s.cp := by simp only [State.writeRPair, State.writeR_cp]
@[simp] theorem State.writeRPair_cpExc (n : RegNum) (v : Dword) : (s.writeRPair n v).cpExc = s.cpExc := by simp only [State.writeRPair, State.writeR_cpExc]
@[simp] theorem State.writeRPair_mem (n : RegNum) (v : Dword) : (s.writeRPair n v).mem = s.mem := by simp only [State.writeRPair, State.writeR_mem]
@[simp] theorem State.writeRPair_irl (n : RegNum) (v : Dword) : (s.writeRPair n v).irl = s.irl := by simp only [State.writeRPair, State.writeR_irl]
@[simp] theorem State.writeRPair_resetReq (n : RegNum) (v : Dword) : (s.writeRPair n v).resetReq = s.resetReq := by simp only [State.writeRPair, State.writeR_resetReq]
@[simp] theorem State.writeRPair_storeError (n : RegNum) (v : Dword) : (s.writeRPair n v).storeError = s.storeError := by simp only [State.writeRPair, State.writeR_storeError]
@[simp] theorem State.writeRPair_pending (n : RegNum) (v : Dword) : (s.writeRPair n v).pending = s.pending := by simp only [State.writeRPair, State.writeR_pending]
@[simp] theorem State.writeRPair_afterFpop2 (n : RegNum) (v : Dword) : (s.writeRPair n v).afterFpop2 = s.afterFpop2 := by simp only [State.writeRPair, State.writeR_afterFpop2]
@[simp] theorem State.writeRPair_afterJmpl (n : RegNum) (v : Dword) : (s.writeRPair n v).afterJmpl = s.afterJmpl := by simp only [State.writeRPair, State.writeR_afterJmpl]
@[simp] theorem State.writeRPair_ldfsrLeft (n : RegNum) (v : Dword) : (s.writeRPair n v).ldfsrLeft = s.ldfsrLeft := by simp only [State.writeRPair, State.writeR_ldfsrLeft]
@[simp] theorem State.writeRPair_fetchDoubt (n : RegNum) (v : Dword) : (s.writeRPair n v).fetchDoubt = s.fetchDoubt := by simp only [State.writeRPair, State.writeR_fetchDoubt]
@[simp] theorem State.writeRPair_ibuf (n : RegNum) (v : Dword) : (s.writeRPair n v).ibuf = s.ibuf := by simp only [State.writeRPair, State.writeR_ibuf]
@[simp] theorem State.writeRPair_freeCount (n : RegNum) (v : Dword) : (s.writeRPair n v).freeCount = s.freeCount := by simp only [State.writeRPair, State.writeR_freeCount]

/-! ### writeF -/

@[simp] theorem State.writeF_cfg (n : RegNum) (v : Word) : (s.writeF n v).cfg = s.cfg := rfl
@[simp] theorem State.writeF_pc (n : RegNum) (v : Word) : (s.writeF n v).pc = s.pc := rfl
@[simp] theorem State.writeF_npc (n : RegNum) (v : Word) : (s.writeF n v).npc = s.npc := rfl
@[simp] theorem State.writeF_annul (n : RegNum) (v : Word) : (s.writeF n v).annul = s.annul := rfl
@[simp] theorem State.writeF_errorMode (n : RegNum) (v : Word) : (s.writeF n v).errorMode = s.errorMode := rfl
@[simp] theorem State.writeF_g (n : RegNum) (v : Word) : (s.writeF n v).g = s.g := rfl
@[simp] theorem State.writeF_win (n : RegNum) (v : Word) : (s.writeF n v).win = s.win := rfl
@[simp] theorem State.writeF_psr (n : RegNum) (v : Word) : (s.writeF n v).psr = s.psr := rfl
@[simp] theorem State.writeF_wim (n : RegNum) (v : Word) : (s.writeF n v).wim = s.wim := rfl
@[simp] theorem State.writeF_tbr (n : RegNum) (v : Word) : (s.writeF n v).tbr = s.tbr := rfl
@[simp] theorem State.writeF_y (n : RegNum) (v : Word) : (s.writeF n v).y = s.y := rfl
@[simp] theorem State.writeF_asr (n : RegNum) (v : Word) : (s.writeF n v).asr = s.asr := rfl
@[simp] theorem State.writeF_fsr (n : RegNum) (v : Word) : (s.writeF n v).fsr = s.fsr := rfl
@[simp] theorem State.writeF_fq (n : RegNum) (v : Word) : (s.writeF n v).fq = s.fq := rfl
@[simp] theorem State.writeF_fpPending (n : RegNum) (v : Word) : (s.writeF n v).fpPending = s.fpPending := rfl
@[simp] theorem State.writeF_cp (n : RegNum) (v : Word) : (s.writeF n v).cp = s.cp := rfl
@[simp] theorem State.writeF_cpExc (n : RegNum) (v : Word) : (s.writeF n v).cpExc = s.cpExc := rfl
@[simp] theorem State.writeF_mem (n : RegNum) (v : Word) : (s.writeF n v).mem = s.mem := rfl
@[simp] theorem State.writeF_irl (n : RegNum) (v : Word) : (s.writeF n v).irl = s.irl := rfl
@[simp] theorem State.writeF_resetReq (n : RegNum) (v : Word) : (s.writeF n v).resetReq = s.resetReq := rfl
@[simp] theorem State.writeF_storeError (n : RegNum) (v : Word) : (s.writeF n v).storeError = s.storeError := rfl
@[simp] theorem State.writeF_pending (n : RegNum) (v : Word) : (s.writeF n v).pending = s.pending := rfl
@[simp] theorem State.writeF_afterFpop2 (n : RegNum) (v : Word) : (s.writeF n v).afterFpop2 = s.afterFpop2 := rfl
@[simp] theorem State.writeF_afterJmpl (n : RegNum) (v : Word) : (s.writeF n v).afterJmpl = s.afterJmpl := rfl
@[simp] theorem State.writeF_ldfsrLeft (n : RegNum) (v : Word) : (s.writeF n v).ldfsrLeft = s.ldfsrLeft := rfl
@[simp] theorem State.writeF_fetchDoubt (n : RegNum) (v : Word) : (s.writeF n v).fetchDoubt = s.fetchDoubt := rfl
@[simp] theorem State.writeF_ibuf (n : RegNum) (v : Word) : (s.writeF n v).ibuf = s.ibuf := rfl
@[simp] theorem State.writeF_freeCount (n : RegNum) (v : Word) : (s.writeF n v).freeCount = s.freeCount := rfl

/-! ### writeFd -/

@[simp] theorem State.writeFd_cfg (n : RegNum) (v : Dword) : (s.writeFd n v).cfg = s.cfg := by simp only [State.writeFd, State.writeF_cfg]
@[simp] theorem State.writeFd_pc (n : RegNum) (v : Dword) : (s.writeFd n v).pc = s.pc := by simp only [State.writeFd, State.writeF_pc]
@[simp] theorem State.writeFd_npc (n : RegNum) (v : Dword) : (s.writeFd n v).npc = s.npc := by simp only [State.writeFd, State.writeF_npc]
@[simp] theorem State.writeFd_annul (n : RegNum) (v : Dword) : (s.writeFd n v).annul = s.annul := by simp only [State.writeFd, State.writeF_annul]
@[simp] theorem State.writeFd_errorMode (n : RegNum) (v : Dword) : (s.writeFd n v).errorMode = s.errorMode := by simp only [State.writeFd, State.writeF_errorMode]
@[simp] theorem State.writeFd_g (n : RegNum) (v : Dword) : (s.writeFd n v).g = s.g := by simp only [State.writeFd, State.writeF_g]
@[simp] theorem State.writeFd_win (n : RegNum) (v : Dword) : (s.writeFd n v).win = s.win := by simp only [State.writeFd, State.writeF_win]
@[simp] theorem State.writeFd_psr (n : RegNum) (v : Dword) : (s.writeFd n v).psr = s.psr := by simp only [State.writeFd, State.writeF_psr]
@[simp] theorem State.writeFd_wim (n : RegNum) (v : Dword) : (s.writeFd n v).wim = s.wim := by simp only [State.writeFd, State.writeF_wim]
@[simp] theorem State.writeFd_tbr (n : RegNum) (v : Dword) : (s.writeFd n v).tbr = s.tbr := by simp only [State.writeFd, State.writeF_tbr]
@[simp] theorem State.writeFd_y (n : RegNum) (v : Dword) : (s.writeFd n v).y = s.y := by simp only [State.writeFd, State.writeF_y]
@[simp] theorem State.writeFd_asr (n : RegNum) (v : Dword) : (s.writeFd n v).asr = s.asr := by simp only [State.writeFd, State.writeF_asr]
@[simp] theorem State.writeFd_fsr (n : RegNum) (v : Dword) : (s.writeFd n v).fsr = s.fsr := by simp only [State.writeFd, State.writeF_fsr]
@[simp] theorem State.writeFd_fq (n : RegNum) (v : Dword) : (s.writeFd n v).fq = s.fq := by simp only [State.writeFd, State.writeF_fq]
@[simp] theorem State.writeFd_fpPending (n : RegNum) (v : Dword) : (s.writeFd n v).fpPending = s.fpPending := by simp only [State.writeFd, State.writeF_fpPending]
@[simp] theorem State.writeFd_cp (n : RegNum) (v : Dword) : (s.writeFd n v).cp = s.cp := by simp only [State.writeFd, State.writeF_cp]
@[simp] theorem State.writeFd_cpExc (n : RegNum) (v : Dword) : (s.writeFd n v).cpExc = s.cpExc := by simp only [State.writeFd, State.writeF_cpExc]
@[simp] theorem State.writeFd_mem (n : RegNum) (v : Dword) : (s.writeFd n v).mem = s.mem := by simp only [State.writeFd, State.writeF_mem]
@[simp] theorem State.writeFd_irl (n : RegNum) (v : Dword) : (s.writeFd n v).irl = s.irl := by simp only [State.writeFd, State.writeF_irl]
@[simp] theorem State.writeFd_resetReq (n : RegNum) (v : Dword) : (s.writeFd n v).resetReq = s.resetReq := by simp only [State.writeFd, State.writeF_resetReq]
@[simp] theorem State.writeFd_storeError (n : RegNum) (v : Dword) : (s.writeFd n v).storeError = s.storeError := by simp only [State.writeFd, State.writeF_storeError]
@[simp] theorem State.writeFd_pending (n : RegNum) (v : Dword) : (s.writeFd n v).pending = s.pending := by simp only [State.writeFd, State.writeF_pending]
@[simp] theorem State.writeFd_afterFpop2 (n : RegNum) (v : Dword) : (s.writeFd n v).afterFpop2 = s.afterFpop2 := by simp only [State.writeFd, State.writeF_afterFpop2]
@[simp] theorem State.writeFd_afterJmpl (n : RegNum) (v : Dword) : (s.writeFd n v).afterJmpl = s.afterJmpl := by simp only [State.writeFd, State.writeF_afterJmpl]
@[simp] theorem State.writeFd_ldfsrLeft (n : RegNum) (v : Dword) : (s.writeFd n v).ldfsrLeft = s.ldfsrLeft := by simp only [State.writeFd, State.writeF_ldfsrLeft]
@[simp] theorem State.writeFd_fetchDoubt (n : RegNum) (v : Dword) : (s.writeFd n v).fetchDoubt = s.fetchDoubt := by simp only [State.writeFd, State.writeF_fetchDoubt]
@[simp] theorem State.writeFd_ibuf (n : RegNum) (v : Dword) : (s.writeFd n v).ibuf = s.ibuf := by simp only [State.writeFd, State.writeF_ibuf]
@[simp] theorem State.writeFd_freeCount (n : RegNum) (v : Dword) : (s.writeFd n v).freeCount = s.freeCount := by simp only [State.writeFd, State.writeF_freeCount]

/-! ### writeFq -/

@[simp] theorem State.writeFq_cfg (n : RegNum) (v : Quad) : (s.writeFq n v).cfg = s.cfg := by simp only [State.writeFq, State.writeF_cfg]
@[simp] theorem State.writeFq_pc (n : RegNum) (v : Quad) : (s.writeFq n v).pc = s.pc := by simp only [State.writeFq, State.writeF_pc]
@[simp] theorem State.writeFq_npc (n : RegNum) (v : Quad) : (s.writeFq n v).npc = s.npc := by simp only [State.writeFq, State.writeF_npc]
@[simp] theorem State.writeFq_annul (n : RegNum) (v : Quad) : (s.writeFq n v).annul = s.annul := by simp only [State.writeFq, State.writeF_annul]
@[simp] theorem State.writeFq_errorMode (n : RegNum) (v : Quad) : (s.writeFq n v).errorMode = s.errorMode := by simp only [State.writeFq, State.writeF_errorMode]
@[simp] theorem State.writeFq_g (n : RegNum) (v : Quad) : (s.writeFq n v).g = s.g := by simp only [State.writeFq, State.writeF_g]
@[simp] theorem State.writeFq_win (n : RegNum) (v : Quad) : (s.writeFq n v).win = s.win := by simp only [State.writeFq, State.writeF_win]
@[simp] theorem State.writeFq_psr (n : RegNum) (v : Quad) : (s.writeFq n v).psr = s.psr := by simp only [State.writeFq, State.writeF_psr]
@[simp] theorem State.writeFq_wim (n : RegNum) (v : Quad) : (s.writeFq n v).wim = s.wim := by simp only [State.writeFq, State.writeF_wim]
@[simp] theorem State.writeFq_tbr (n : RegNum) (v : Quad) : (s.writeFq n v).tbr = s.tbr := by simp only [State.writeFq, State.writeF_tbr]
@[simp] theorem State.writeFq_y (n : RegNum) (v : Quad) : (s.writeFq n v).y = s.y := by simp only [State.writeFq, State.writeF_y]
@[simp] theorem State.writeFq_asr (n : RegNum) (v : Quad) : (s.writeFq n v).asr = s.asr := by simp only [State.writeFq, State.writeF_asr]
@[simp] theorem State.writeFq_fsr (n : RegNum) (v : Quad) : (s.writeFq n v).fsr = s.fsr := by simp only [State.writeFq, State.writeF_fsr]
@[simp] theorem State.writeFq_fq (n : RegNum) (v : Quad) : (s.writeFq n v).fq = s.fq := by simp only [State.writeFq, State.writeF_fq]
@[simp] theorem State.writeFq_fpPending (n : RegNum) (v : Quad) : (s.writeFq n v).fpPending = s.fpPending := by simp only [State.writeFq, State.writeF_fpPending]
@[simp] theorem State.writeFq_cp (n : RegNum) (v : Quad) : (s.writeFq n v).cp = s.cp := by simp only [State.writeFq, State.writeF_cp]
@[simp] theorem State.writeFq_cpExc (n : RegNum) (v : Quad) : (s.writeFq n v).cpExc = s.cpExc := by simp only [State.writeFq, State.writeF_cpExc]
@[simp] theorem State.writeFq_mem (n : RegNum) (v : Quad) : (s.writeFq n v).mem = s.mem := by simp only [State.writeFq, State.writeF_mem]
@[simp] theorem State.writeFq_irl (n : RegNum) (v : Quad) : (s.writeFq n v).irl = s.irl := by simp only [State.writeFq, State.writeF_irl]
@[simp] theorem State.writeFq_resetReq (n : RegNum) (v : Quad) : (s.writeFq n v).resetReq = s.resetReq := by simp only [State.writeFq, State.writeF_resetReq]
@[simp] theorem State.writeFq_storeError (n : RegNum) (v : Quad) : (s.writeFq n v).storeError = s.storeError := by simp only [State.writeFq, State.writeF_storeError]
@[simp] theorem State.writeFq_pending (n : RegNum) (v : Quad) : (s.writeFq n v).pending = s.pending := by simp only [State.writeFq, State.writeF_pending]
@[simp] theorem State.writeFq_afterFpop2 (n : RegNum) (v : Quad) : (s.writeFq n v).afterFpop2 = s.afterFpop2 := by simp only [State.writeFq, State.writeF_afterFpop2]
@[simp] theorem State.writeFq_afterJmpl (n : RegNum) (v : Quad) : (s.writeFq n v).afterJmpl = s.afterJmpl := by simp only [State.writeFq, State.writeF_afterJmpl]
@[simp] theorem State.writeFq_ldfsrLeft (n : RegNum) (v : Quad) : (s.writeFq n v).ldfsrLeft = s.ldfsrLeft := by simp only [State.writeFq, State.writeF_ldfsrLeft]
@[simp] theorem State.writeFq_fetchDoubt (n : RegNum) (v : Quad) : (s.writeFq n v).fetchDoubt = s.fetchDoubt := by simp only [State.writeFq, State.writeF_fetchDoubt]
@[simp] theorem State.writeFq_ibuf (n : RegNum) (v : Quad) : (s.writeFq n v).ibuf = s.ibuf := by simp only [State.writeFq, State.writeF_ibuf]
@[simp] theorem State.writeFq_freeCount (n : RegNum) (v : Quad) : (s.writeFq n v).freeCount = s.freeCount := by simp only [State.writeFq, State.writeF_freeCount]

/-! ### writeFp -/

@[simp] theorem State.writeFp_cfg (p : Prec) (n : RegNum) (v : Nat) : (s.writeFp p n v).cfg = s.cfg := by cases p <;> simp only [State.writeFp, State.writeF_cfg, State.writeFd_cfg, State.writeFq_cfg]
@[simp] theorem State.writeFp_pc (p : Prec) (n : RegNum) (v : Nat) : (s.writeFp p n v).pc = s.pc := by cases p <;> simp only [State.writeFp, State.writeF_pc, State.writeFd_pc, State.writeFq_pc]
@[simp] theorem State.writeFp_npc (p : Prec) (n : RegNum) (v : Nat) : (s.writeFp p n v).npc = s.npc := by cases p <;> simp only [State.writeFp, State.writeF_npc, State.writeFd_npc, State.writeFq_npc]
@[simp] theorem State.writeFp_annul (p : Prec) (n : RegNum) (v : Nat) : (s.writeFp p n v).annul = s.annul := by cases p <;> simp only [State.writeFp, State.writeF_annul, State.writeFd_annul, State.writeFq_annul]
@[simp] theorem State.writeFp_errorMode (p : Prec) (n : RegNum) (v : Nat) : (s.writeFp p n v).errorMode = s.errorMode := by cases p <;> simp only [State.writeFp, State.writeF_errorMode, State.writeFd_errorMode, State.writeFq_errorMode]
@[simp] theorem State.writeFp_g (p : Prec) (n : RegNum) (v : Nat) : (s.writeFp p n v).g = s.g := by cases p <;> simp only [State.writeFp, State.writeF_g, State.writeFd_g, State.writeFq_g]
@[simp] theorem State.writeFp_win (p : Prec) (n : RegNum) (v : Nat) : (s.writeFp p n v).win = s.win := by cases p <;> simp only [State.writeFp, State.writeF_win, State.writeFd_win, State.writeFq_win]
@[simp] theorem State.writeFp_psr (p : Prec) (n : RegNum) (v : Nat) : (s.writeFp p n v).psr = s.psr := by cases p <;> simp only [State.writeFp, State.writeF_psr, State.writeFd_psr, State.writeFq_psr]
@[simp] theorem State.writeFp_wim (p : Prec) (n : RegNum) (v : Nat) : (s.writeFp p n v).wim = s.wim := by cases p <;> simp only [State.writeFp, State.writeF_wim, State.writeFd_wim, State.writeFq_wim]
@[simp] theorem State.writeFp_tbr (p : Prec) (n : RegNum) (v : Nat) : (s.writeFp p n v).tbr = s.tbr := by cases p <;> simp only [State.writeFp, State.writeF_tbr, State.writeFd_tbr, State.writeFq_tbr]
@[simp] theorem State.writeFp_y (p : Prec) (n : RegNum) (v : Nat) : (s.writeFp p n v).y = s.y := by cases p <;> simp only [State.writeFp, State.writeF_y, State.writeFd_y, State.writeFq_y]
@[simp] theorem State.writeFp_asr (p : Prec) (n : RegNum) (v : Nat) : (s.writeFp p n v).asr = s.asr := by cases p <;> simp only [State.writeFp, State.writeF_asr, State.writeFd_asr, State.writeFq_asr]
@[simp] theorem State.writeFp_fsr (p : Prec) (n : RegNum) (v : Nat) : (s.writeFp p n v).fsr = s.fsr := by cases p <;> simp only [State.writeFp, State.writeF_fsr, State.writeFd_fsr, State.writeFq_fsr]
@[simp] theorem State.writeFp_fq (p : Prec) (n : RegNum) (v : Nat) : (s.writeFp p n v).fq = s.fq := by cases p <;> simp only [State.writeFp, State.writeF_fq, State.writeFd_fq, State.writeFq_fq]
@[simp] theorem State.writeFp_fpPending (p : Prec) (n : RegNum) (v : Nat) : (s.writeFp p n v).fpPending = s.fpPending := by cases p <;> simp only [State.writeFp, State.writeF_fpPending, State.writeFd_fpPending, State.writeFq_fpPending]
@[simp] theorem State.writeFp_cp (p : Prec) (n : RegNum) (v : Nat) : (s.writeFp p n v).cp = s.cp := by cases p <;> simp only [State.writeFp, State.writeF_cp, State.writeFd_cp, State.writeFq_cp]
@[simp] theorem State.writeFp_cpExc (p : Prec) (n : RegNum) (v : Nat) : (s.writeFp p n v).cpExc = s.cpExc := by cases p <;> simp only [State.writeFp, State.writeF_cpExc, State.writeFd_cpExc, State.writeFq_cpExc]
@[simp] theorem State.writeFp_mem (p : Prec) (n : RegNum) (v : Nat) : (s.writeFp p n v).mem = s.mem := by cases p <;> simp only [State.writeFp, State.writeF_mem, State.writeFd_mem, State.writeFq_mem]
@[simp] theorem State.writeFp_irl (p : Prec) (n : RegNum) (v : Nat) : (s.writeFp p n v).irl = s.irl := by cases p <;> simp only [State.writeFp, State.writeF_irl, State.writeFd_irl, State.writeFq_irl]
@[simp] theorem State.writeFp_resetReq (p : Prec) (n : RegNum) (v : Nat) : (s.writeFp p n v).resetReq = s.resetReq := by cases p <;> simp only [State.writeFp, State.writeF_resetReq, State.writeFd_resetReq, State.writeFq_resetReq]
@[simp] theorem State.writeFp_storeError (p : Prec) (n : RegNum) (v : Nat) : (s.writeFp p n v).storeError = s.storeError := by cases p <;> simp only [State.writeFp, State.writeF_storeError, State.writeFd_storeError, State.writeFq_storeError]
@[simp] theorem State.writeFp_pending (p : Prec) (n : RegNum) (v : Nat) : (s.writeFp p n v).pending = s.pending := by cases p <;> simp only [State.writeFp, State.writeF_pending, State.writeFd_pending, State.writeFq_pending]
@[simp] theorem State.writeFp_afterFpop2 (p : Prec) (n : RegNum) (v : Nat) : (s.writeFp p n v).afterFpop2 = s.afterFpop2 := by cases p <;> simp only [State.writeFp, State.writeF_afterFpop2, State.writeFd_afterFpop2, State.writeFq_afterFpop2]
@[simp] theorem State.writeFp_afterJmpl (p : Prec) (n : RegNum) (v : Nat) : (s.writeFp p n v).afterJmpl = s.afterJmpl := by cases p <;> simp only [State.writeFp, State.writeF_afterJmpl, State.writeFd_afterJmpl, State.writeFq_afterJmpl]
@[simp] theorem State.writeFp_ldfsrLeft (p : Prec) (n : RegNum) (v : Nat) : (s.writeFp p n v).ldfsrLeft = s.ldfsrLeft := by cases p <;> simp only [State.writeFp, State.writeF_ldfsrLeft, State.writeFd_ldfsrLeft, State.writeFq_ldfsrLeft]
@[simp] theorem State.writeFp_fetchDoubt (p : Prec) (n : RegNum) (v : Nat) : (s.writeFp p n v).fetchDoubt = s.fetchDoubt := by cases p <;> simp only [State.writeFp, State.writeF_fetchDoubt, State.writeFd_fetchDoubt, State.writeFq_fetchDoubt]
@[simp] theorem State.writeFp_ibuf (p : Prec) (n : RegNum) (v : Nat) : (s.writeFp p n v).ibuf = s.ibuf := by cases p <;> simp only [State.writeFp, State.writeF_ibuf, State.writeFd_ibuf, State.writeFq_ibuf]
@[simp] theorem State.writeFp_freeCount (p : Prec) (n : RegNum) (v : Nat) : (s.writeFp p n v).freeCount = s.freeCount := by cases p <;> simp only [State.writeFp, State.writeF_freeCount, State.writeFd_freeCount, State.writeFq_freeCount]

/-! ### writeC -/

@[simp] theorem State.writeC_cfg (n : RegNum) (v : Word) : (s.writeC n v).cfg = s.cfg := rfl
@[simp] theorem State.writeC_pc (n : RegNum) (v : Word) : (s.writeC n v).pc = s.pc := rfl
@[simp] theorem State.writeC_npc (n : RegNum) (v : Word) : (s.writeC n v).npc = s.npc := rfl
@[simp] theorem State.writeC_annul (n : RegNum) (v : Word) : (s.writeC n v).annul = s.annul := rfl
@[simp] theorem State.writeC_errorMode (n : RegNum) (v : Word) : (s.writeC n v).errorMode = s.errorMode := rfl
@[simp] theorem State.writeC_g (n : RegNum) (v : Word) : (s.writeC n v).g = s.g := rfl
@[simp] theorem State.writeC_win (n : RegNum) (v : Word) : (s.writeC n v).win = s.win := rfl
@[simp] theorem State.writeC_psr (n : RegNum) (v : Word) : (s.writeC n v).psr = s.psr := rfl
@[simp] theorem State.writeC_wim (n : RegNum) (v : Word) : (s.writeC n v).wim = s.wim := rfl
@[simp] theorem State.writeC_tbr (n : RegNum) (v : Word) : (s.writeC n v).tbr = s.tbr := rfl
@[simp] theorem State.writeC_y (n : RegNum) (v : Word) : (s.writeC n v).y = s.y := rfl
@[simp] theorem State.writeC_asr (n : RegNum) (v : Word) : (s.writeC n v).asr = s.asr := rfl
@[simp] theorem State.writeC_f (n : RegNum) (v : Word) : (s.writeC n v).f = s.f := rfl
@[simp] theorem State.writeC_fsr (n : RegNum) (v : Word) : (s.writeC n v).fsr = s.fsr := rfl
@[simp] theorem State.writeC_fq (n : RegNum) (v : Word) : (s.writeC n v).fq = s.fq := rfl
@[simp] theorem State.writeC_fpPending (n : RegNum) (v : Word) : (s.writeC n v).fpPending = s.fpPending := rfl
@[simp] theorem State.writeC_cpExc (n : RegNum) (v : Word) : (s.writeC n v).cpExc = s.cpExc := rfl
@[simp] theorem State.writeC_mem (n : RegNum) (v : Word) : (s.writeC n v).mem = s.mem := rfl
@[simp] theorem State.writeC_irl (n : RegNum) (v : Word) : (s.writeC n v).irl = s.irl := rfl
@[simp] theorem State.writeC_resetReq (n : RegNum) (v : Word) : (s.writeC n v).resetReq = s.resetReq := rfl
@[simp] theorem State.writeC_storeError (n : RegNum) (v : Word) : (s.writeC n v).storeError = s.storeError := rfl
@[simp] theorem State.writeC_pending (n : RegNum) (v : Word) : (s.writeC n v).pending = s.pending := rfl
@[simp] theorem State.writeC_afterFpop2 (n : RegNum) (v : Word) : (s.writeC n v).afterFpop2 = s.afterFpop2 := rfl
@[simp] theorem State.writeC_afterJmpl (n : RegNum) (v : Word) : (s.writeC n v).afterJmpl = s.afterJmpl := rfl
@[simp] theorem State.writeC_ldfsrLeft (n : RegNum) (v : Word) : (s.writeC n v).ldfsrLeft = s.ldfsrLeft := rfl
@[simp] theorem State.writeC_fetchDoubt (n : RegNum) (v : Word) : (s.writeC n v).fetchDoubt = s.fetchDoubt := rfl
@[simp] theorem State.writeC_ibuf (n : RegNum) (v : Word) : (s.writeC n v).ibuf = s.ibuf := rfl
@[simp] theorem State.writeC_freeCount (n : RegNum) (v : Word) : (s.writeC n v).freeCount = s.freeCount := rfl
@[simp] theorem State.writeC_cp (n : RegNum) (v : Word) :
    (s.writeC n v).cp = { s.cp with regs := s.cp.regs.setIfInBounds n.toNat v } := rfl

/-! ### writeCsr -/

@[simp] theorem State.writeCsr_cfg (v : Word) : (s.writeCsr v).cfg = s.cfg := rfl
@[simp] theorem State.writeCsr_pc (v : Word) : (s.writeCsr v).pc = s.pc := rfl
@[simp] theorem State.writeCsr_npc (v : Word) : (s.writeCsr v).npc = s.npc := rfl
@[simp] theorem State.writeCsr_annul (v : Word) : (s.writeCsr v).annul = s.annul := rfl
@[simp] theorem State.writeCsr_errorMode (v : Word) : (s.writeCsr v).errorMode = s.errorMode := rfl
@[simp] theorem State.writeCsr_g (v : Word) : (s.writeCsr v).g = s.g := rfl
@[simp] theorem State.writeCsr_win (v : Word) : (s.writeCsr v).win = s.win := rfl
@[simp] theorem State.writeCsr_psr (v : Word) : (s.writeCsr v).psr = s.psr := rfl
@[simp] theorem State.writeCsr_wim (v : Word) : (s.writeCsr v).wim = s.wim := rfl
@[simp] theorem State.writeCsr_tbr (v : Word) : (s.writeCsr v).tbr = s.tbr := rfl
@[simp] theorem State.writeCsr_y (v : Word) : (s.writeCsr v).y = s.y := rfl
@[simp] theorem State.writeCsr_asr (v : Word) : (s.writeCsr v).asr = s.asr := rfl
@[simp] theorem State.writeCsr_f (v : Word) : (s.writeCsr v).f = s.f := rfl
@[simp] theorem State.writeCsr_fsr (v : Word) : (s.writeCsr v).fsr = s.fsr := rfl
@[simp] theorem State.writeCsr_fq (v : Word) : (s.writeCsr v).fq = s.fq := rfl
@[simp] theorem State.writeCsr_fpPending (v : Word) : (s.writeCsr v).fpPending = s.fpPending := rfl
@[simp] theorem State.writeCsr_cpExc (v : Word) : (s.writeCsr v).cpExc = s.cpExc := rfl
@[simp] theorem State.writeCsr_mem (v : Word) : (s.writeCsr v).mem = s.mem := rfl
@[simp] theorem State.writeCsr_irl (v : Word) : (s.writeCsr v).irl = s.irl := rfl
@[simp] theorem State.writeCsr_resetReq (v : Word) : (s.writeCsr v).resetReq = s.resetReq := rfl
@[simp] theorem State.writeCsr_storeError (v : Word) : (s.writeCsr v).storeError = s.storeError := rfl
@[simp] theorem State.writeCsr_pending (v : Word) : (s.writeCsr v).pending = s.pending := rfl
@[simp] theorem State.writeCsr_afterFpop2 (v : Word) : (s.writeCsr v).afterFpop2 = s.afterFpop2 := rfl
@[simp] theorem State.writeCsr_afterJmpl (v : Word) : (s.writeCsr v).afterJmpl = s.afterJmpl := rfl
@[simp] theorem State.writeCsr_ldfsrLeft (v : Word) : (s.writeCsr v).ldfsrLeft = s.ldfsrLeft := rfl
@[simp] theorem State.writeCsr_fetchDoubt (v : Word) : (s.writeCsr v).fetchDoubt = s.fetchDoubt := rfl
@[simp] theorem State.writeCsr_ibuf (v : Word) : (s.writeCsr v).ibuf = s.ibuf := rfl
@[simp] theorem State.writeCsr_freeCount (v : Word) : (s.writeCsr v).freeCount = s.freeCount := rfl
@[simp] theorem State.writeCsr_cp (v : Word) : (s.writeCsr v).cp = { s.cp with csr := v } := rfl

/-! ### cpMove -/

@[simp] theorem State.cpMove_cfg (m : CpMove) : (s.cpMove m).cfg = s.cfg := rfl
@[simp] theorem State.cpMove_pc (m : CpMove) : (s.cpMove m).pc = s.pc := rfl
@[simp] theorem State.cpMove_npc (m : CpMove) : (s.cpMove m).npc = s.npc := rfl
@[simp] theorem State.cpMove_annul (m : CpMove) : (s.cpMove m).annul = s.annul := rfl
@[simp] theorem State.cpMove_errorMode (m : CpMove) : (s.cpMove m).errorMode = s.errorMode := rfl
@[simp] theorem State.cpMove_g (m : CpMove) : (s.cpMove m).g = s.g := rfl
@[simp] theorem State.cpMove_win (m : CpMove) : (s.cpMove m).win = s.win := rfl
@[simp] theorem State.cpMove_psr (m : CpMove) : (s.cpMove m).psr = s.psr := rfl
@[simp] theorem State.cpMove_wim (m : CpMove) : (s.cpMove m).wim = s.wim := rfl
@[simp] theorem State.cpMove_tbr (m : CpMove) : (s.cpMove m).tbr = s.tbr := rfl
@[simp] theorem State.cpMove_y (m : CpMove) : (s.cpMove m).y = s.y := rfl
@[simp] theorem State.cpMove_asr (m : CpMove) : (s.cpMove m).asr = s.asr := rfl
@[simp] theorem State.cpMove_f (m : CpMove) : (s.cpMove m).f = s.f := rfl
@[simp] theorem State.cpMove_fsr (m : CpMove) : (s.cpMove m).fsr = s.fsr := rfl
@[simp] theorem State.cpMove_fq (m : CpMove) : (s.cpMove m).fq = s.fq := rfl
@[simp] theorem State.cpMove_fpPending (m : CpMove) : (s.cpMove m).fpPending = s.fpPending := rfl
@[simp] theorem State.cpMove_cpExc (m : CpMove) : (s.cpMove m).cpExc = s.cpExc := rfl
@[simp] theorem State.cpMove_mem (m : CpMove) : (s.cpMove m).mem = s.mem := rfl
@[simp] theorem State.cpMove_irl (m : CpMove) : (s.cpMove m).irl = s.irl := rfl
@[simp] theorem State.cpMove_resetReq (m : CpMove) : (s.cpMove m).resetReq = s.resetReq := rfl
@[simp] theorem State.cpMove_storeError (m : CpMove) : (s.cpMove m).storeError = s.storeError := rfl
@[simp] theorem State.cpMove_pending (m : CpMove) : (s.cpMove m).pending = s.pending := rfl
@[simp] theorem State.cpMove_afterFpop2 (m : CpMove) : (s.cpMove m).afterFpop2 = s.afterFpop2 := rfl
@[simp] theorem State.cpMove_afterJmpl (m : CpMove) : (s.cpMove m).afterJmpl = s.afterJmpl := rfl
@[simp] theorem State.cpMove_ldfsrLeft (m : CpMove) : (s.cpMove m).ldfsrLeft = s.ldfsrLeft := rfl
@[simp] theorem State.cpMove_fetchDoubt (m : CpMove) : (s.cpMove m).fetchDoubt = s.fetchDoubt := rfl
@[simp] theorem State.cpMove_ibuf (m : CpMove) : (s.cpMove m).ibuf = s.ibuf := rfl
@[simp] theorem State.cpMove_freeCount (m : CpMove) : (s.cpMove m).freeCount = s.freeCount := rfl
@[simp] theorem State.cpMove_cp (m : CpMove) : (s.cpMove m).cp = Config.cpMoved m s.cp := rfl

/-! ### noteStore -/

@[simp] theorem State.noteStore_cfg (k : Nat) : (s.noteStore k).cfg = s.cfg := by unfold State.noteStore; split <;> rfl
@[simp] theorem State.noteStore_pc (k : Nat) : (s.noteStore k).pc = s.pc := by unfold State.noteStore; split <;> rfl
@[simp] theorem State.noteStore_npc (k : Nat) : (s.noteStore k).npc = s.npc := by unfold State.noteStore; split <;> rfl
@[simp] theorem State.noteStore_annul (k : Nat) : (s.noteStore k).annul = s.annul := by unfold State.noteStore; split <;> rfl
@[simp] theorem State.noteStore_errorMode (k : Nat) : (s.noteStore k).errorMode = s.errorMode := by unfold State.noteStore; split <;> rfl
@[simp] theorem State.noteStore_g (k : Nat) : (s.noteStore k).g = s.g := by unfold State.noteStore; split <;> rfl
@[simp] theorem State.noteStore_win (k : Nat) : (s.noteStore k).win = s.win := by unfold State.noteStore; split <;> rfl
@[simp] theorem State.noteStore_psr (k : Nat) : (s.noteStore k).psr = s.psr := by unfold State.noteStore; split <;> rfl
@[simp] theorem State.noteStore_wim (k : Nat) : (s.noteStore k).wim = s.wim := by unfold State.noteStore; split <;> rfl
@[simp] theorem State.noteStore_tbr (k : Nat) : (s.noteStore k).tbr = s.tbr := by unfold State.noteStore; split <;> rfl
@[simp] theorem State.noteStore_y (k : Nat) : (s.noteStore k).y = s.y := by unfold State.noteStore; split <;> rfl
@[simp] theorem State.noteStore_asr (k : Nat) : (s.noteStore k).asr = s.asr := by unfold State.noteStore; split <;> rfl
@[simp] theorem State.noteStore_f (k : Nat) : (s.noteStore k).f = s.f := by unfold State.noteStore; split <;> rfl
@[simp] theorem State.noteStore_fsr (k : Nat) : (s.noteStore k).fsr = s.fsr := by unfold State.noteStore; split <;> rfl
@[simp] theorem State.noteStore_fq (k : Nat) : (s.noteStore k).fq = s.fq := by unfold State.noteStore; split <;> rfl
@[simp] theorem State.noteStore_fpPending (k : Nat) : (s.noteStore k).fpPending = s.fpPending := by unfold State.noteStore; split <;> rfl
@[simp] theorem State.noteStore_cp (k : Nat) : (s.noteStore k).cp = s.cp := by unfold State.noteStore; split <;> rfl
@[simp] theorem State.noteStore_cpExc (k : Nat) : (s.noteStore k).cpExc = s.cpExc := by unfold State.noteStore; split <;> rfl
@[simp] theorem State.noteStore_mem (k : Nat) : (s.noteStore k).mem = s.mem := by unfold State.noteStore; split <;> rfl
@[simp] theorem State.noteStore_irl (k : Nat) : (s.noteStore k).irl = s.irl := by unfold State.noteStore; split <;> rfl
@[simp] theorem State.noteStore_resetReq (k : Nat) : (s.noteStore k).resetReq = s.resetReq := by unfold State.noteStore; split <;> rfl
@[simp] theorem State.noteStore_storeError (k : Nat) : (s.noteStore k).storeError = s.storeError := by unfold State.noteStore; split <;> rfl
@[simp] theorem State.noteStore_pending (k : Nat) : (s.noteStore k).pending = s.pending := by unfold State.noteStore; split <;> rfl
@[simp] theorem State.noteStore_afterFpop2 (k : Nat) : (s.noteStore k).afterFpop2 = s.afterFpop2 := by unfold State.noteStore; split <;> rfl
@[simp] theorem State.noteStore_afterJmpl (k : Nat) : (s.noteStore k).afterJmpl = s.afterJmpl := by unfold State.noteStore; split <;> rfl
@[simp] theorem State.noteStore_ldfsrLeft (k : Nat) : (s.noteStore k).ldfsrLeft = s.ldfsrLeft := by unfold State.noteStore; split <;> rfl
@[simp] theorem State.noteStore_fetchDoubt (k : Nat) : (s.noteStore k).fetchDoubt = s.fetchDoubt := by unfold State.noteStore; split <;> rfl
@[simp] theorem State.noteStore_freeCount (k : Nat) : (s.noteStore k).freeCount = s.freeCount := by unfold State.noteStore; split <;> rfl

/-! ### store1 -/

@[simp] theorem State.store1_cfg (k : Nat) (v : Byte) : (s.store1 k v).cfg = s.cfg := State.noteStore_cfg s k
@[simp] theorem State.store1_pc (k : Nat) (v : Byte) : (s.store1 k v).pc = s.pc := State.noteStore_pc s k
@[simp] theorem State.store1_npc (k : Nat) (v : Byte) : (s.store1 k v).npc = s.npc := State.noteStore_npc s k
@[simp] theorem State.store1_annul (k : Nat) (v : Byte) : (s.store1 k v).annul = s.annul := State.noteStore_annul s k
@[simp] theorem State.store1_errorMode (k : Nat) (v : Byte) : (s.store1 k v).errorMode = s.errorMode := State.noteStore_errorMode s k
@[simp] theorem State.store1_g (k : Nat) (v : Byte) : (s.store1 k v).g = s.g := State.noteStore_g s k
@[simp] theorem State.store1_win (k : Nat) (v : Byte) : (s.store1 k v).win = s.win := State.noteStore_win s k
@[simp] theorem State.store1_psr (k : Nat) (v : Byte) : (s.store1 k v).psr = s.psr := State.noteStore_psr s k
@[simp] theorem State.store1_wim (k : Nat) (v : Byte) : (s.store1 k v).wim = s.wim := State.noteStore_wim s k
@[simp] theorem State.store1_tbr (k : Nat) (v : Byte) : (s.store1 k v).tbr = s.tbr := State.noteStore_tbr s k
@[simp] theorem State.store1_y (k : Nat) (v : Byte) : (s.store1 k v).y = s.y := State.noteStore_y s k
@[simp] theorem State.store1_asr (k : Nat) (v : Byte) : (s.store1 k v).asr = s.asr := State.noteStore_asr s k
@[simp] theorem State.store1_f (k : Nat) (v : Byte) : (s.store1 k v).f = s.f := State.noteStore_f s k
@[simp] theorem State.store1_fsr (k : Nat) (v : Byte) : (s.store1 k v).fsr = s.fsr := State.noteStore_fsr s k
@[simp] theorem State.store1_fq (k : Nat) (v : Byte) : (s.store1 k v).fq = s.fq := State.noteStore_fq s k
@[simp] theorem State.store1_fpPending (k : Nat) (v : Byte) : (s.store1 k v).fpPending = s.fpPending := State.noteStore_fpPending s k
@[simp] theorem State.store1_cp (k : Nat) (v : Byte) : (s.store1 k v).cp = s.cp := State.noteStore_cp s k
@[simp] theorem State.store1_cpExc (k : Nat) (v : Byte) : (s.store1 k v).cpExc = s.cpExc := State.noteStore_cpExc s k
@[simp] theorem State.store1_irl (k : Nat) (v : Byte) : (s.store1 k v).irl = s.irl := State.noteStore_irl s k
@[simp] theorem State.store1_resetReq (k : Nat) (v : Byte) : (s.store1 k v).resetReq = s.resetReq := State.noteStore_resetReq s k
@[simp] theorem State.store1_storeError (k : Nat) (v : Byte) : (s.store1 k v).storeError = s.storeError := State.noteStore_storeError s k
@[simp] theorem State.store1_pending (k : Nat) (v : Byte) : (s.store1 k v).pending = s.pending := State.noteStore_pending s k
@[simp] theorem State.store1_afterFpop2 (k : Nat) (v : Byte) : (s.store1 k v).afterFpop2 = s.afterFpop2 := State.noteStore_afterFpop2 s k
@[simp] theorem State.store1_afterJmpl (k : Nat) (v : Byte) : (s.store1 k v).afterJmpl = s.afterJmpl := State.noteStore_afterJmpl s k
@[simp] theorem State.store1_ldfsrLeft (k : Nat) (v : Byte) : (s.store1 k v).ldfsrLeft = s.ldfsrLeft := State.noteStore_ldfsrLeft s k
@[simp] theorem State.store1_fetchDoubt (k : Nat) (v : Byte) : (s.store1 k v).fetchDoubt = s.fetchDoubt := State.noteStore_fetchDoubt s k
@[simp] theorem State.store1_freeCount (k : Nat) (v : Byte) : (s.store1 k v).freeCount = s.freeCount := State.noteStore_freeCount s k

/-! ### store2 -/

@[simp] theorem State.store2_cfg (k : Nat) (v : Half) : (s.store2 k v).cfg = s.cfg := State.noteStore_cfg s k
@[simp] theorem State.store2_pc (k : Nat) (v : Half) : (s.store2 k v).pc = s.pc := State.noteStore_pc s k
@[simp] theorem State.store2_npc (k : Nat) (v : Half) : (s.store2 k v).npc = s.npc := State.noteStore_npc s k
@[simp] theorem State.store2_annul (k : Nat) (v : Half) : (s.store2 k v).annul = s.annul := State.noteStore_annul s k
@[simp] theorem State.store2_errorMode (k : Nat) (v : Half) : (s.store2 k v).errorMode = s.errorMode := State.noteStore_errorMode s k
@[simp] theorem State.store2_g (k : Nat) (v : Half) : (s.store2 k v).g = s.g := State.noteStore_g s k
@[simp] theorem State.store2_win (k : Nat) (v : Half) : (s.store2 k v).win = s.win := State.noteStore_win s k
@[simp] theorem State.store2_psr (k : Nat) (v : Half) : (s.store2 k v).psr = s.psr := State.noteStore_psr s k
@[simp] theorem State.store2_wim (k : Nat) (v : Half) : (s.store2 k v).wim = s.wim := State.noteStore_wim s k
@[simp] theorem State.store2_tbr (k : Nat) (v : Half) : (s.store2 k v).tbr = s.tbr := State.noteStore_tbr s k
@[simp] theorem State.store2_y (k : Nat) (v : Half) : (s.store2 k v).y = s.y := State.noteStore_y s k
@[simp] theorem State.store2_asr (k : Nat) (v : Half) : (s.store2 k v).asr = s.asr := State.noteStore_asr s k
@[simp] theorem State.store2_f (k : Nat) (v : Half) : (s.store2 k v).f = s.f := State.noteStore_f s k
@[simp] theorem State.store2_fsr (k : Nat) (v : Half) : (s.store2 k v).fsr = s.fsr := State.noteStore_fsr s k
@[simp] theorem State.store2_fq (k : Nat) (v : Half) : (s.store2 k v).fq = s.fq := State.noteStore_fq s k
@[simp] theorem State.store2_fpPending (k : Nat) (v : Half) : (s.store2 k v).fpPending = s.fpPending := State.noteStore_fpPending s k
@[simp] theorem State.store2_cp (k : Nat) (v : Half) : (s.store2 k v).cp = s.cp := State.noteStore_cp s k
@[simp] theorem State.store2_cpExc (k : Nat) (v : Half) : (s.store2 k v).cpExc = s.cpExc := State.noteStore_cpExc s k
@[simp] theorem State.store2_irl (k : Nat) (v : Half) : (s.store2 k v).irl = s.irl := State.noteStore_irl s k
@[simp] theorem State.store2_resetReq (k : Nat) (v : Half) : (s.store2 k v).resetReq = s.resetReq := State.noteStore_resetReq s k
@[simp] theorem State.store2_storeError (k : Nat) (v : Half) : (s.store2 k v).storeError = s.storeError := State.noteStore_storeError s k
@[simp] theorem State.store2_pending (k : Nat) (v : Half) : (s.store2 k v).pending = s.pending := State.noteStore_pending s k
@[simp] theorem State.store2_afterFpop2 (k : Nat) (v : Half) : (s.store2 k v).afterFpop2 = s.afterFpop2 := State.noteStore_afterFpop2 s k
@[simp] theorem State.store2_afterJmpl (k : Nat) (v : Half) : (s.store2 k v).afterJmpl = s.afterJmpl := State.noteStore_afterJmpl s k
@[simp] theorem State.store2_ldfsrLeft (k : Nat) (v : Half) : (s.store2 k v).ldfsrLeft = s.ldfsrLeft := State.noteStore_ldfsrLeft s k
@[simp] theorem State.store2_fetchDoubt (k : Nat) (v : Half) : (s.store2 k v).fetchDoubt = s.fetchDoubt := State.noteStore_fetchDoubt s k
@[simp] theorem State.store2_freeCount (k : Nat) (v : Half) : (s.store2 k v).freeCount = s.freeCount := State.noteStore_freeCount s k

/-! ### store4 -/

@[simp] theorem State.store4_cfg (k : Nat) (v : Word) : (s.store4 k v).cfg = s.cfg := State.noteStore_cfg s k
@[simp] theorem State.store4_pc (k : Nat) (v : Word) : (s.store4 k v).pc = s.pc := State.noteStore_pc s k
@[simp] theorem State.store4_npc (k : Nat) (v : Word) : (s.store4 k v).npc = s.npc := State.noteStore_npc s k
@[simp] theorem State.store4_annul (k : Nat) (v : Word) : (s.store4 k v).annul = s.annul := State.noteStore_annul s k
@[simp] theorem State.store4_errorMode (k : Nat) (v : Word) : (s.store4 k v).errorMode = s.errorMode := State.noteStore_errorMode s k
@[simp] theorem State.store4_g (k : Nat) (v : Word) : (s.store4 k v).g = s.g := State.noteStore_g s k
@[simp] theorem State.store4_win (k : Nat) (v : Word) : (s.store4 k v).win = s.win := State.noteStore_win s k
@[simp] theorem State.store4_psr (k : Nat) (v : Word) : (s.store4 k v).psr = s.psr := State.noteStore_psr s k
@[simp] theorem State.store4_wim (k : Nat) (v : Word) : (s.store4 k v).wim = s.wim := State.noteStore_wim s k
@[simp] theorem State.store4_tbr (k : Nat) (v : Word) : (s.store4 k v).tbr = s.tbr := State.noteStore_tbr s k
@[simp] theorem State.store4_y (k : Nat) (v : Word) : (s.store4 k v).y = s.y := State.noteStore_y s k
@[simp] theorem State.store4_asr (k : Nat) (v : Word) : (s.store4 k v).asr = s.asr := State.noteStore_asr s k
@[simp] theorem State.store4_f (k : Nat) (v : Word) : (s.store4 k v).f = s.f := State.noteStore_f s k
@[simp] theorem State.store4_fsr (k : Nat) (v : Word) : (s.store4 k v).fsr = s.fsr := State.noteStore_fsr s k
@[simp] theorem State.store4_fq (k : Nat) (v : Word) : (s.store4 k v).fq = s.fq := State.noteStore_fq s k
@[simp] theorem State.store4_fpPending (k : Nat) (v : Word) : (s.store4 k v).fpPending = s.fpPending := State.noteStore_fpPending s k
@[simp] theorem State.store4_cp (k : Nat) (v : Word) : (s.store4 k v).cp = s.cp := State.noteStore_cp s k
@[simp] theorem State.store4_cpExc (k : Nat) (v : Word) : (s.store4 k v).cpExc = s.cpExc := State.noteStore_cpExc s k
@[simp] theorem State.store4_irl (k : Nat) (v : Word) : (s.store4 k v).irl = s.irl := State.noteStore_irl s k
@[simp] theorem State.store4_resetReq (k : Nat) (v : Word) : (s.store4 k v).resetReq = s.resetReq := State.noteStore_resetReq s k
@[simp] theorem State.store4_storeError (k : Nat) (v : Word) : (s.store4 k v).storeError = s.storeError := State.noteStore_storeError s k
@[simp] theorem State.store4_pending (k : Nat) (v : Word) : (s.store4 k v).pending = s.pending := State.noteStore_pending s k
@[simp] theorem State.store4_afterFpop2 (k : Nat) (v : Word) : (s.store4 k v).afterFpop2 = s.afterFpop2 := State.noteStore_afterFpop2 s k
@[simp] theorem State.store4_afterJmpl (k : Nat) (v : Word) : (s.store4 k v).afterJmpl = s.afterJmpl := State.noteStore_afterJmpl s k
@[simp] theorem State.store4_ldfsrLeft (k : Nat) (v : Word) : (s.store4 k v).ldfsrLeft = s.ldfsrLeft := State.noteStore_ldfsrLeft s k
@[simp] theorem State.store4_fetchDoubt (k : Nat) (v : Word) : (s.store4 k v).fetchDoubt = s.fetchDoubt := State.noteStore_fetchDoubt s k
@[simp] theorem State.store4_freeCount (k : Nat) (v : Word) : (s.store4 k v).freeCount = s.freeCount := State.noteStore_freeCount s k

/-! ### store8 -/

@[simp] theorem State.store8_cfg (k : Nat) (v : Dword) : (s.store8 k v).cfg = s.cfg := State.noteStore_cfg s k
@[simp] theorem State.store8_pc (k : Nat) (v : Dword) : (s.store8 k v).pc = s.pc := State.noteStore_pc s k
@[simp] theorem State.store8_npc (k : Nat) (v : Dword) : (s.store8 k v).npc = s.npc := State.noteStore_npc s k
@[simp] theorem State.store8_annul (k : Nat) (v : Dword) : (s.store8 k v).annul = s.annul := State.noteStore_annul s k
@[simp] theorem State.store8_errorMode (k : Nat) (v : Dword) : (s.store8 k v).errorMode = s.errorMode := State.noteStore_errorMode s k
@[simp] theorem State.store8_g (k : Nat) (v : Dword) : (s.store8 k v).g = s.g := State.noteStore_g s k
@[simp] theorem State.store8_win (k : Nat) (v : Dword) : (s.store8 k v).win = s.win := State.noteStore_win s k
@[simp] theorem State.store8_psr (k : Nat) (v : Dword) : (s.store8 k v).psr = s.psr := State.noteStore_psr s k
@[simp] theorem State.store8_wim (k : Nat) (v : Dword) : (s.store8 k v).wim = s.wim := State.noteStore_wim s k
@[simp] theorem State.store8_tbr (k : Nat) (v : Dword) : (s.store8 k v).tbr = s.tbr := State.noteStore_tbr s k
@[simp] theorem State.store8_y (k : Nat) (v : Dword) : (s.store8 k v).y = s.y := State.noteStore_y s k
@[simp] theorem State.store8_asr (k : Nat) (v : Dword) : (s.store8 k v).asr = s.asr := State.noteStore_asr s k
@[simp] theorem State.store8_f (k : Nat) (v : Dword) : (s.store8 k v).f = s.f := State.noteStore_f s k
@[simp] theorem State.store8_fsr (k : Nat) (v : Dword) : (s.store8 k v).fsr = s.fsr := State.noteStore_fsr s k
@[simp] theorem State.store8_fq (k : Nat) (v : Dword) : (s.store8 k v).fq = s.fq := State.noteStore_fq s k
@[simp] theorem State.store8_fpPending (k : Nat) (v : Dword) : (s.store8 k v).fpPending = s.fpPending := State.noteStore_fpPending s k
@[simp] theorem State.store8_cp (k : Nat) (v : Dword) : (s.store8 k v).cp = s.cp := State.noteStore_cp s k
@[simp] theorem State.store8_cpExc (k : Nat) (v : Dword) : (s.store8 k v).cpExc = s.cpExc := State.noteStore_cpExc s k
@[simp] theorem State.store8_irl (k : Nat) (v : Dword) : (s.store8 k v).irl = s.irl := State.noteStore_irl s k
@[simp] theorem State.store8_resetReq (k : Nat) (v : Dword) : (s.store8 k v).resetReq = s.resetReq := State.noteStore_resetReq s k
@[simp] theorem State.store8_storeError (k : Nat) (v : Dword) : (s.store8 k v).storeError = s.storeError := State.noteStore_storeError s k
@[simp] theorem State.store8_pending (k : Nat) (v : Dword) : (s.store8 k v).pending = s.pending := State.noteStore_pending s k
@[simp] theorem State.store8_afterFpop2 (k : Nat) (v : Dword) : (s.store8 k v).afterFpop2 = s.afterFpop2 := State.noteStore_afterFpop2 s k
@[simp] theorem State.store8_afterJmpl (k : Nat) (v : Dword) : (s.store8 k v).afterJmpl = s.afterJmpl := State.noteStore_afterJmpl s k
@[simp] theorem State.store8_ldfsrLeft (k : Nat) (v : Dword) : (s.store8 k v).ldfsrLeft = s.ldfsrLeft := State.noteStore_ldfsrLeft s k
@[simp] theorem State.store8_fetchDoubt (k : Nat) (v : Dword) : (s.store8 k v).fetchDoubt = s.fetchDoubt := State.noteStore_fetchDoubt s k
@[simp] theorem State.store8_freeCount (k : Nat) (v : Dword) : (s.store8 k v).freeCount = s.freeCount := State.noteStore_freeCount s k

/-! ### trapEntry -/

@[simp] theorem State.trapEntry_cfg (tt : BitVec 8) : (s.trapEntry tt).cfg = s.cfg := by simp [State.trapEntry]
@[simp] theorem State.trapEntry_annul (tt : BitVec 8) : (s.trapEntry tt).annul = s.annul := by simp [State.trapEntry]
@[simp] theorem State.trapEntry_errorMode (tt : BitVec 8) : (s.trapEntry tt).errorMode = s.errorMode := by simp [State.trapEntry]
@[simp] theorem State.trapEntry_wim (tt : BitVec 8) : (s.trapEntry tt).wim = s.wim := by simp [State.trapEntry]
@[simp] theorem State.trapEntry_y (tt : BitVec 8) : (s.trapEntry tt).y = s.y := by simp [State.trapEntry]
@[simp] theorem State.trapEntry_asr (tt : BitVec 8) : (s.trapEntry tt).asr = s.asr := by simp [State.trapEntry]
@[simp] theorem State.trapEntry_f (tt : BitVec 8) : (s.trapEntry tt).f = s.f := by simp [State.trapEntry]
@[simp] theorem State.trapEntry_fsr (tt : BitVec 8) : (s.trapEntry tt).fsr = s.fsr := by simp [State.trapEntry]
@[simp] theorem State.trapEntry_fq (tt : BitVec 8) : (s.trapEntry tt).fq = s.fq := by simp [State.trapEntry]
@[simp] theorem State.trapEntry_fpPending (tt : BitVec 8) : (s.trapEntry tt).fpPending = s.fpPending := by simp [State.trapEntry]
@[simp] theorem State.trapEntry_cp (tt : BitVec 8) : (s.trapEntry tt).cp = s.cp := by simp [State.trapEntry]
@[simp] theorem State.trapEntry_cpExc (tt : BitVec 8) : (s.trapEntry tt).cpExc = s.cpExc := by simp [State.trapEntry]
@[simp] theorem State.trapEntry_mem (tt : BitVec 8) : (s.trapEntry tt).mem = s.mem := by simp [State.trapEntry]
@[simp] theorem State.trapEntry_irl (tt : BitVec 8) : (s.trapEntry tt).irl = s.irl := by simp [State.trapEntry]
@[simp] theorem State.trapEntry_resetReq (tt : BitVec 8) : (s.trapEntry tt).resetReq = s.resetReq := by simp [State.trapEntry]
@[simp] theorem State.trapEntry_storeError (tt : BitVec 8) : (s.trapEntry tt).storeError = s.storeError := by simp [State.trapEntry]
@[simp] theorem State.trapEntry_afterFpop2 (tt : BitVec 8) : (s.trapEntry tt).afterFpop2 = s.afterFpop2 := by simp [State.trapEntry]
@[simp] theorem State.trapEntry_afterJmpl (tt : BitVec 8) : (s.trapEntry tt).afterJmpl = s.afterJmpl := by simp [State.trapEntry]
@[simp] theorem State.trapEntry_ldfsrLeft (tt : BitVec 8) : (s.trapEntry tt).ldfsrLeft = s.ldfsrLeft := by simp [State.trapEntry]
@[simp] theorem State.trapEntry_ibuf (tt : BitVec 8) : (s.trapEntry tt).ibuf = s.ibuf := by simp [State.trapEntry]
@[simp] theorem State.trapEntry_psr_icc (tt : BitVec 8) : (s.trapEntry tt).psr.icc = s.psr.icc := by simp [State.trapEntry]
@[simp] theorem State.trapEntry_psr_ec (tt : BitVec 8) : (s.trapEntry tt).psr.ec = s.psr.ec := by simp [State.trapEntry]
@[simp] theorem State.trapEntry_psr_ef (tt : BitVec 8) : (s.trapEntry tt).psr.ef = s.psr.ef := by simp [State.trapEntry]
@[simp] theorem State.trapEntry_psr_pil (tt : BitVec 8) : (s.trapEntry tt).psr.pil = s.psr.pil := by simp [State.trapEntry]

/-! ### errorHalt -/

@[simp] theorem State.errorHalt_cfg (t : Trap) : (s.errorHalt t).cfg = s.cfg := rfl
@[simp] theorem State.errorHalt_pc (t : Trap) : (s.errorHalt t).pc = s.pc := rfl
@[simp] theorem State.errorHalt_npc (t : Trap) : (s.errorHalt t).npc = s.npc := rfl
@[simp] theorem State.errorHalt_annul (t : Trap) : (s.errorHalt t).annul = s.annul := rfl
@[simp] theorem State.errorHalt_g (t : Trap) : (s.errorHalt t).g = s.g := rfl
@[simp] theorem State.errorHalt_win (t : Trap) : (s.errorHalt t).win = s.win := rfl
@[simp] theorem State.errorHalt_psr (t : Trap) : (s.errorHalt t).psr = s.psr := rfl
@[simp] theorem State.errorHalt_wim (t : Trap) : (s.errorHalt t).wim = s.wim := rfl
@[simp] theorem State.errorHalt_y (t : Trap) : (s.errorHalt t).y = s.y := rfl
@[simp] theorem State.errorHalt_asr (t : Trap) : (s.errorHalt t).asr = s.asr := rfl
@[simp] theorem State.errorHalt_f (t : Trap) : (s.errorHalt t).f = s.f := rfl
@[simp] theorem State.errorHalt_fsr (t : Trap) : (s.errorHalt t).fsr = s.fsr := rfl
@[simp] theorem State.errorHalt_fq (t : Trap) : (s.errorHalt t).fq = s.fq := rfl
@[simp] theorem State.errorHalt_fpPending (t : Trap) : (s.errorHalt t).fpPending = s.fpPending := rfl
@[simp] theorem State.errorHalt_cp (t : Trap) : (s.errorHalt t).cp = s.cp := rfl
@[simp] theorem State.errorHalt_cpExc (t : Trap) : (s.errorHalt t).cpExc = s.cpExc := rfl
@[simp] theorem State.errorHalt_mem (t : Trap) : (s.errorHalt t).mem = s.mem := rfl
@[simp] theorem State.errorHalt_irl (t : Trap) : (s.errorHalt t).irl = s.irl := rfl
@[simp] theorem State.errorHalt_resetReq (t : Trap) : (s.errorHalt t).resetReq = s.resetReq := rfl
@[simp] theorem State.errorHalt_storeError (t : Trap) : (s.errorHalt t).storeError = s.storeError := rfl
@[simp] theorem State.errorHalt_pending (t : Trap) : (s.errorHalt t).pending = s.pending := rfl
@[simp] theorem State.errorHalt_afterFpop2 (t : Trap) : (s.errorHalt t).afterFpop2 = s.afterFpop2 := rfl
@[simp] theorem State.errorHalt_afterJmpl (t : Trap) : (s.errorHalt t).afterJmpl = s.afterJmpl := rfl
@[simp] theorem State.errorHalt_ldfsrLeft (t : Trap) : (s.errorHalt t).ldfsrLeft = s.ldfsrLeft := rfl
@[simp] theorem State.errorHalt_fetchDoubt (t : Trap) : (s.errorHalt t).fetchDoubt = s.fetchDoubt := rfl
@[simp] theorem State.errorHalt_ibuf (t : Trap) : (s.errorHalt t).ibuf = s.ibuf := rfl
@[simp] theorem State.errorHalt_freeCount (t : Trap) : (s.errorHalt t).freeCount = s.freeCount := rfl

/-! ### trap -/

@[simp] theorem State.trap_cfg (t : Trap) : (s.trap t).cfg = s.cfg := by unfold State.trap; split <;> simp
@[simp] theorem State.trap_annul (t : Trap) : (s.trap t).annul = s.annul := by unfold State.trap; split <;> simp
@[simp] theorem State.trap_wim (t : Trap) : (s.trap t).wim = s.wim := by unfold State.trap; split <;> simp
@[simp] theorem State.trap_y (t : Trap) : (s.trap t).y = s.y := by unfold State.trap; split <;> simp
@[simp] theorem State.trap_asr (t : Trap) : (s.trap t).asr = s.asr := by unfold State.trap; split <;> simp
@[simp] theorem State.trap_f (t : Trap) : (s.trap t).f = s.f := by unfold State.trap; split <;> simp
@[simp] theorem State.trap_fsr (t : Trap) : (s.trap t).fsr = s.fsr := by unfold State.trap; split <;> simp
@[simp] theorem State.trap_fq (t : Trap) : (s.trap t).fq = s.fq := by unfold State.trap; split <;> simp
@[simp] theorem State.trap_fpPending (t : Trap) : (s.trap t).fpPending = s.fpPending := by unfold State.trap; split <;> simp
@[simp] theorem State.trap_cp (t : Trap) : (s.trap t).cp = s.cp := by unfold State.trap; split <;> simp
@[simp] theorem State.trap_cpExc (t : Trap) : (s.trap t).cpExc = s.cpExc := by unfold State.trap; split <;> simp
@[simp] theorem State.trap_mem (t : Trap) : (s.trap t).mem = s.mem := by unfold State.trap; split <;> simp
@[simp] theorem State.trap_irl (t : Trap) : (s.trap t).irl = s.irl := by unfold State.trap; split <;> simp
@[simp] theorem State.trap_resetReq (t : Trap) : (s.trap t).resetReq = s.resetReq := by unfold State.trap; split <;> simp
@[simp] theorem State.trap_storeError (t : Trap) : (s.trap t).storeError = s.storeError := by unfold State.trap; split <;> simp
@[simp] theorem State.trap_afterFpop2 (t : Trap) : (s.trap t).afterFpop2 = s.afterFpop2 := by unfold State.trap; split <;> simp
@[simp] theorem State.trap_afterJmpl (t : Trap) : (s.trap t).afterJmpl = s.afterJmpl := by unfold State.trap; split <;> simp
@[simp] theorem State.trap_ldfsrLeft (t : Trap) : (s.trap t).ldfsrLeft = s.ldfsrLeft := by unfold State.trap; split <;> simp
@[simp] theorem State.trap_ibuf (t : Trap) : (s.trap t).ibuf = s.ibuf := by unfold State.trap; split <;> simp
@[simp] theorem State.trap_psr_icc (t : Trap) : (s.trap t).psr.icc = s.psr.icc := by unfold State.trap; split <;> simp
@[simp] theorem State.trap_psr_ec (t : Trap) : (s.trap t).psr.ec = s.psr.ec := by unfold State.trap; split <;> simp
@[simp] theorem State.trap_psr_ef (t : Trap) : (s.trap t).psr.ef = s.psr.ef := by unfold State.trap; split <;> simp
@[simp] theorem State.trap_psr_pil (t : Trap) : (s.trap t).psr.pil = s.psr.pil := by unfold State.trap; split <;> simp

/-! ### What each update writes -/

@[simp] theorem State.retire_freeCount : s.retire.freeCount = s.freeCount + 1 := rfl
@[simp] theorem State.advance_pc : s.advance.pc = s.npc := rfl
@[simp] theorem State.advance_npc : s.advance.npc = s.npc + 4 := rfl
@[simp] theorem State.delayed_pc (a : Word) : (s.delayed a).pc = s.npc := rfl
@[simp] theorem State.delayed_npc (a : Word) : (s.delayed a).npc = a := rfl
@[simp] theorem State.skip_pc : s.skip.pc = s.npc := rfl
@[simp] theorem State.skip_npc : s.skip.npc = s.npc + 4 := rfl
@[simp] theorem State.skip_annul : s.skip.annul = false := rfl
@[simp] theorem State.annulNext_annul (a : Bool) : (s.annulNext a).annul = a := rfl
@[simp] theorem State.markJmpl_afterJmpl : s.markJmpl.afterJmpl = true := rfl
@[simp] theorem State.markFpop2_afterFpop2 : s.markFpop2.afterFpop2 = true := rfl
@[simp] theorem State.errorHalt_errorMode (t : Trap) : (s.errorHalt t).errorMode = true := rfl
@[simp] theorem State.errorHalt_tbr (t : Trap) : (s.errorHalt t).tbr = { s.tbr with tt := t.tt } := rfl

/-! ### settled -/

@[simp] theorem State.settled_cfg : s.settled.cfg = s.cfg := rfl
@[simp] theorem State.settled_pc : s.settled.pc = s.pc := rfl
@[simp] theorem State.settled_npc : s.settled.npc = s.npc := rfl
@[simp] theorem State.settled_annul : s.settled.annul = s.annul := rfl
@[simp] theorem State.settled_errorMode : s.settled.errorMode = s.errorMode := rfl
@[simp] theorem State.settled_g : s.settled.g = s.g := rfl
@[simp] theorem State.settled_win : s.settled.win = s.win := rfl
@[simp] theorem State.settled_psr : s.settled.psr = s.psr := rfl
@[simp] theorem State.settled_wim : s.settled.wim = s.wim := rfl
@[simp] theorem State.settled_tbr : s.settled.tbr = s.tbr := rfl
@[simp] theorem State.settled_y : s.settled.y = s.y := rfl
@[simp] theorem State.settled_asr : s.settled.asr = s.asr := rfl
@[simp] theorem State.settled_f : s.settled.f = s.f := rfl
@[simp] theorem State.settled_fsr : s.settled.fsr = s.fsr := rfl
@[simp] theorem State.settled_fq : s.settled.fq = s.fq := rfl
@[simp] theorem State.settled_fpPending : s.settled.fpPending = s.fpPending := rfl
@[simp] theorem State.settled_cp : s.settled.cp = s.cp := rfl
@[simp] theorem State.settled_cpExc : s.settled.cpExc = s.cpExc := rfl
@[simp] theorem State.settled_mem : s.settled.mem = s.mem := rfl
@[simp] theorem State.settled_irl : s.settled.irl = s.irl := rfl
@[simp] theorem State.settled_resetReq : s.settled.resetReq = s.resetReq := rfl
@[simp] theorem State.settled_storeError : s.settled.storeError = s.storeError := rfl
@[simp] theorem State.settled_afterFpop2 : s.settled.afterFpop2 = s.afterFpop2 := rfl
@[simp] theorem State.settled_afterJmpl : s.settled.afterJmpl = s.afterJmpl := rfl
@[simp] theorem State.settled_ldfsrLeft : s.settled.ldfsrLeft = s.ldfsrLeft := rfl
@[simp] theorem State.settled_fetchDoubt : s.settled.fetchDoubt = s.fetchDoubt := rfl
@[simp] theorem State.settled_ibuf : s.settled.ibuf = s.ibuf := rfl
@[simp] theorem State.settled_freeCount : s.settled.freeCount = s.freeCount := rfl

/-! ### flushDword -/

@[simp] theorem State.flushDword_cfg (a : Word) : (s.flushDword a).cfg = s.cfg := rfl
@[simp] theorem State.flushDword_pc (a : Word) : (s.flushDword a).pc = s.pc := rfl
@[simp] theorem State.flushDword_npc (a : Word) : (s.flushDword a).npc = s.npc := rfl
@[simp] theorem State.flushDword_annul (a : Word) : (s.flushDword a).annul = s.annul := rfl
@[simp] theorem State.flushDword_errorMode (a : Word) : (s.flushDword a).errorMode = s.errorMode := rfl
@[simp] theorem State.flushDword_g (a : Word) : (s.flushDword a).g = s.g := rfl
@[simp] theorem State.flushDword_win (a : Word) : (s.flushDword a).win = s.win := rfl
@[simp] theorem State.flushDword_psr (a : Word) : (s.flushDword a).psr = s.psr := rfl
@[simp] theorem State.flushDword_wim (a : Word) : (s.flushDword a).wim = s.wim := rfl
@[simp] theorem State.flushDword_tbr (a : Word) : (s.flushDword a).tbr = s.tbr := rfl
@[simp] theorem State.flushDword_y (a : Word) : (s.flushDword a).y = s.y := rfl
@[simp] theorem State.flushDword_asr (a : Word) : (s.flushDword a).asr = s.asr := rfl
@[simp] theorem State.flushDword_f (a : Word) : (s.flushDword a).f = s.f := rfl
@[simp] theorem State.flushDword_fsr (a : Word) : (s.flushDword a).fsr = s.fsr := rfl
@[simp] theorem State.flushDword_fq (a : Word) : (s.flushDword a).fq = s.fq := rfl
@[simp] theorem State.flushDword_fpPending (a : Word) : (s.flushDword a).fpPending = s.fpPending := rfl
@[simp] theorem State.flushDword_cp (a : Word) : (s.flushDword a).cp = s.cp := rfl
@[simp] theorem State.flushDword_cpExc (a : Word) : (s.flushDword a).cpExc = s.cpExc := rfl
@[simp] theorem State.flushDword_mem (a : Word) : (s.flushDword a).mem = s.mem := rfl
@[simp] theorem State.flushDword_irl (a : Word) : (s.flushDword a).irl = s.irl := rfl
@[simp] theorem State.flushDword_resetReq (a : Word) : (s.flushDword a).resetReq = s.resetReq := rfl
@[simp] theorem State.flushDword_storeError (a : Word) : (s.flushDword a).storeError = s.storeError := rfl
@[simp] theorem State.flushDword_afterFpop2 (a : Word) : (s.flushDword a).afterFpop2 = s.afterFpop2 := rfl
@[simp] theorem State.flushDword_afterJmpl (a : Word) : (s.flushDword a).afterJmpl = s.afterJmpl := rfl
@[simp] theorem State.flushDword_ldfsrLeft (a : Word) : (s.flushDword a).ldfsrLeft = s.ldfsrLeft := rfl
@[simp] theorem State.flushDword_fetchDoubt (a : Word) : (s.flushDword a).fetchDoubt = s.fetchDoubt := rfl
@[simp] theorem State.flushDword_freeCount (a : Word) : (s.flushDword a).freeCount = s.freeCount := rfl
@[simp] theorem State.flushDword_pending (a : Word) : (s.flushDword a).pending = s.pending := rfl

end Sys2Proof.Machine
end

