-- ==== Sys2Proof/Laws/Registers.lean ====
section
/-! SUPPORT. Reading a register after writing one: integer registers by window, f registers by precision, coprocessor
registers, and icc, CWP and Y outside a window of a write state register instruction. -/

namespace Sys2Proof.Machine

/-! ### Windows -/

theorem State.two_le_nWindows (s : State) : 2 ≤ s.nWindows := by simp [State.nWindows, Config.nWindows]

theorem State.nWindows_le (s : State) : s.nWindows ≤ 32 := by
  have := s.cfg.windowsBeyondTwo.isLt; simp only [State.nWindows, Config.nWindows]; omega

theorem State.nWindows_pos (s : State) : 0 < s.nWindows := by have := s.two_le_nWindows; omega

/-- A reduced number is the number of a window. -/
theorem State.window_toNat (s : State) (n : Nat) : (s.window n).toNat = n % s.nWindows := by
  have h1 := Nat.mod_lt n s.nWindows_pos
  have h2 := s.nWindows_le
  simp only [State.window, BitVec.toNat_ofNat]
  exact Nat.mod_eq_of_lt (by omega)

theorem State.window_lt (s : State) (n : Nat) : (s.window n).toNat < s.nWindows := by
  rw [s.window_toNat]; exact Nat.mod_lt _ s.nWindows_pos

theorem State.prevWindow_toNat (s : State) (w : BitVec 5) :
    (s.prevWindow w).toNat = (w.toNat + s.nWindows - 1) % s.nWindows := s.window_toNat _

theorem State.nextWindow_toNat (s : State) (w : BitVec 5) : (s.nextWindow w).toNat = (w.toNat + 1) % s.nWindows :=
  s.window_toNat _

theorem State.cell_lt (s : State) (w : BitVec 5) (n : RegNum) : s.cell w n < 512 := by
  have h := Nat.mod_lt (16 * w.toNat + (n.toNat - 8)) (Nat.mul_pos (by omega : 0 < 16) s.nWindows_pos)
  have := s.nWindows_le
  simp only [State.cell]; omega

/-! ### Integer registers -/

/-- Reading a register looks at NWINDOWS and the two register files only. -/
theorem State.readRW_congr {s t : State} (hc : t.cfg = s.cfg) (hg : t.g = s.g) (hw : t.win = s.win) (w : BitVec 5)
    (n : RegNum) : t.readRW w n = s.readRW w n := by
  simp only [State.readRW, State.cell, State.nWindows, hc, hg, hw]

@[simp] theorem State.readRW_zero (s : State) (w : BitVec 5) : s.readRW w 0 = 0 := rfl

/-- Reading any register after writing one (R22, R23). -/
theorem State.readRW_writeRW (s : State) (w : BitVec 5) (n : RegNum) (v : Word) : RegWritten s (s.writeRW w n v) w n v := by
  intro u m
  simp only [sameReg, Bool.and_eq_true, Bool.or_eq_true, bne_iff_ne, decide_eq_true_eq, beq_iff_eq]
  by_cases hm : m = 0
  · subst hm; rw [if_neg (by simp), State.readRW_zero, State.readRW_zero]
  · unfold State.writeRW
    by_cases hn : n = 0
    · subst hn
      rw [if_pos rfl, if_neg]
      rintro ⟨_, ⟨_, h⟩ | ⟨⟨_, h⟩, _⟩⟩
      · exact hm h
      · simp at h
    · rw [if_neg hn]
      by_cases hn8 : n.toNat < 8
      · rw [if_pos hn8]
        simp only [State.readRW, if_neg hm]
        by_cases hm8 : m.toNat < 8
        · rw [if_pos hm8, if_pos hm8]
          by_cases hmn : m = n
          · subst hmn; rw [if_pos ⟨hm, .inl ⟨hm8, rfl⟩⟩]; simp [hm8]
          · have : n.toNat ≠ m.toNat := fun h => hmn (BitVec.eq_of_toNat_eq h.symm)
            rw [if_neg (by simp [hmn]; omega)]
            simp [this]
        · rw [if_neg hm8, if_neg hm8, if_neg (by omega)]; rfl
      · rw [if_neg hn8]
        simp only [State.readRW, if_neg hm]
        by_cases hm8 : m.toNat < 8
        · rw [if_pos hm8, if_pos hm8, if_neg]
          rintro ⟨_, ⟨_, h⟩ | ⟨⟨_, _⟩, _⟩⟩
          · subst h; exact hn8 hm8
          · omega
        · rw [if_neg hm8, if_neg hm8]
          show (((s.win.setIfInBounds (s.cell w n) v)[s.cell u m]?).getD 0) = _
          by_cases hc : s.cell u m = s.cell w n
          · rw [if_pos ⟨hm, .inr ⟨⟨by omega, by omega⟩, hc⟩⟩, hc]; simp [s.cell_lt w n]
          · rw [if_neg (by rintro ⟨_, ⟨_, _⟩ | ⟨_, h⟩⟩; omega; exact hc h)]
            simp [Ne.symm hc]

/-- Two writes one after the other: the later one wins where both name one cell. -/
theorem State.readRW_writeRW_writeRW (s : State) (w : BitVec 5) (m n : RegNum) (a b : Word) (u : BitVec 5) (i : RegNum) :
    ((s.writeRW w m a).writeRW w n b).readRW u i =
      if sameReg s u i w n then b else if sameReg s u i w m then a else s.readRW u i := by
  have h : sameReg (s.writeRW w m a) u i w n = sameReg s u i w n := by
    simp only [sameReg, State.cell, State.nWindows, State.writeRW_cfg]
  rw [State.readRW_writeRW, h, State.readRW_writeRW]

@[simp] theorem State.seenCwp_writeRW (s : State) (w : BitVec 5) (n : RegNum) (v : Word) :
    (s.writeRW w n v).seenCwp = s.seenCwp := by
  simp [State.seenCwp, State.psrOpen, State.openMask, State.drawWindow, State.draw, State.window, State.nWindows]

/-- Reading any register after a write to the current window. -/
theorem State.readRW_writeR (s : State) (n : RegNum) (v : Word) : RegWritten s (s.writeR n v) s.seenCwp n v :=
  s.readRW_writeRW _ n v

/-- Reading any register after a write of a pair (R24). -/
theorem State.readRW_writeRPair (s : State) (n : RegNum) (v : Dword) :
    PairWritten s (s.writeRPair n v) s.seenCwp n v := by
  intro u m
  simp only [State.writeRPair, State.writeR, State.seenCwp_writeRW]
  exact State.readRW_writeRW_writeRW s _ _ _ _ _ u m

/-! ### Reading r registers after an update of something else -/

section
variable (s : State) (w : BitVec 5) (n : RegNum)

@[simp] theorem State.readRW_retire : s.retire.readRW w n = s.readRW w n := rfl
@[simp] theorem State.readRW_advance : s.advance.readRW w n = s.readRW w n := rfl
@[simp] theorem State.readRW_delayed (a : Word) : (s.delayed a).readRW w n = s.readRW w n := rfl
@[simp] theorem State.readRW_skip : s.skip.readRW w n = s.readRW w n := rfl
@[simp] theorem State.readRW_annulNext (a : Bool) : (s.annulNext a).readRW w n = s.readRW w n := rfl
@[simp] theorem State.readRW_markJmpl : s.markJmpl.readRW w n = s.readRW w n := rfl
@[simp] theorem State.readRW_markFpop2 : s.markFpop2.readRW w n = s.readRW w n := rfl
@[simp] theorem State.readRW_openWindow (r : StateReg) (a b : Word) : (s.openWindow r a b).readRW w n = s.readRW w n := rfl
@[simp] theorem State.readRW_writeIcc (i : Icc) : (s.writeIcc i).readRW w n = s.readRW w n :=
  State.readRW_congr (by simp) (by simp) (by simp) w n
@[simp] theorem State.readRW_writeCwp (c : BitVec 5) : (s.writeCwp c).readRW w n = s.readRW w n :=
  State.readRW_congr (by simp) (by simp) (by simp) w n
@[simp] theorem State.readRW_writeY (v : Word) : (s.writeY v).readRW w n = s.readRW w n :=
  State.readRW_congr (by simp) (by simp) (by simp) w n
@[simp] theorem State.readRW_writeFp (p : Prec) (i : RegNum) (v : Nat) : (s.writeFp p i v).readRW w n = s.readRW w n :=
  State.readRW_congr (by simp) (by simp) (by simp) w n
@[simp] theorem State.readRW_writeF (i : RegNum) (v : Word) : (s.writeF i v).readRW w n = s.readRW w n := rfl
@[simp] theorem State.readRW_writeFd (i : RegNum) (v : Dword) : (s.writeFd i v).readRW w n = s.readRW w n :=
  State.readRW_congr (by simp) (by simp) (by simp) w n
@[simp] theorem State.readRW_writeC (i : RegNum) (v : Word) : (s.writeC i v).readRW w n = s.readRW w n := rfl
@[simp] theorem State.readRW_writeCsr (v : Word) : (s.writeCsr v).readRW w n = s.readRW w n := rfl
@[simp] theorem State.readRW_cpMove (m : CpMove) : (s.cpMove m).readRW w n = s.readRW w n := rfl
@[simp] theorem State.readRW_store1 (k : Nat) (v : Byte) : (s.store1 k v).readRW w n = s.readRW w n :=
  State.readRW_congr (by simp) (by simp) (by simp) w n
@[simp] theorem State.readRW_store2 (k : Nat) (v : Half) : (s.store2 k v).readRW w n = s.readRW w n :=
  State.readRW_congr (by simp) (by simp) (by simp) w n
@[simp] theorem State.readRW_store4 (k : Nat) (v : Word) : (s.store4 k v).readRW w n = s.readRW w n :=
  State.readRW_congr (by simp) (by simp) (by simp) w n
@[simp] theorem State.readRW_store8 (k : Nat) (v : Dword) : (s.store8 k v).readRW w n = s.readRW w n :=
  State.readRW_congr (by simp) (by simp) (by simp) w n
@[simp] theorem State.readRW_errorHalt (t : Trap) : (s.errorHalt t).readRW w n = s.readRW w n := rfl

end

/-! ### The coprocessor registers -/

/-- What a coprocessor register reads after a write of one. -/
theorem State.readC_writeC (s : State) (n : RegNum) (v : Word) (m : RegNum) :
    (s.writeC n v).readC m = if m = n then v else s.readC m := by
  simp only [State.readC, State.writeC, Vector.getElem?_setIfInBounds]
  by_cases h : m = n
  · subst h
    rw [if_pos rfl, if_pos rfl, if_pos (by have := m.isLt; omega), Option.getD_some]
  · rw [if_neg (fun e => h (BitVec.eq_of_toNat_eq e.symm)), if_neg h]

/-! ### The f registers (R40) -/

/-- Reading any f register after writing one. -/
theorem State.readF_writeF (s : State) (n : RegNum) (v : Word) : FWritten s (s.writeF n v) n v := by
  intro m
  simp only [State.readF, State.writeF]
  by_cases h : m = n
  · subst h; simp [m.isLt]
  · have : n.toNat ≠ m.toNat := fun e => h (BitVec.eq_of_toNat_eq e.symm)
    simp [this, h]

/-- Reading any f register after a write of a doubleword (R40). -/
theorem State.readF_writeFd (s : State) (n : RegNum) (v : Dword) (m : RegNum) :
    (s.writeFd n v).readF m =
      if m = oddReg n then v.extractLsb' 0 32 else if m = evenReg n then v.extractLsb' 32 32 else s.readF m := by
  simp only [State.writeFd, State.readF_writeF _ _ _ m]

/-- Reading any f register after a write of a quadword (R40). -/
theorem State.readF_writeFq (s : State) (n : RegNum) (v : Quad) (m : RegNum) :
    (s.writeFq n v).readF m =
      if m = (n &&& 0x1C) ||| 3 then v.extractLsb' 0 32
      else if m = (n &&& 0x1C) ||| 2 then v.extractLsb' 32 32
      else if m = (n &&& 0x1C) ||| 1 then v.extractLsb' 64 32
      else if m = n &&& 0x1C then v.extractLsb' 96 32 else s.readF m := by
  simp only [State.writeFq, State.readF_writeF _ _ _ m]

/-- The f registers of an operand after its write, and every other f register. -/
theorem State.readF_writeFp (s : State) (p : Prec) (n : RegNum) (v : Nat) : FpWritten s (s.writeFp p n v) p n v := by
  cases p with
  | single =>
    refine ⟨by simp [State.readFp, State.writeFp, State.readF_writeF _ _ _ n, precWidth], fun m hm => ?_⟩
    simp only [precCovers, beq_eq_false_iff_ne, ne_eq] at hm
    simp only [State.writeFp, State.readF_writeF _ _ _ m, if_neg hm]
  | double =>
    constructor
    · simp only [State.readFp, State.writeFp, State.readFd, State.readF_writeFd, precWidth]
      have h1 : evenReg n ≠ oddReg n := by revert n; decide
      simp only [if_neg h1, if_true]
      rw [← BitVec.toNat_ofNat]
      congr 1; ext i h; simp; grind
    · intro m hm
      simp only [precCovers, beq_eq_false_iff_ne, ne_eq] at hm
      have h1 : m ≠ oddReg n := by rintro rfl; revert hm; revert n; decide
      have h2 : m ≠ evenReg n := by rintro rfl; revert hm; revert n; decide
      simp only [State.writeFp, State.readF_writeFd, if_neg h1, if_neg h2]
  | quad =>
    constructor
    · simp only [State.readFp, State.writeFp, State.readFq, State.readF_writeFq, precWidth]
      have h1 : n &&& 0x1C ≠ n &&& 0x1C ||| 1 ∧ n &&& 0x1C ≠ n &&& 0x1C ||| 2 ∧ n &&& 0x1C ≠ n &&& 0x1C ||| 3 ∧
          n &&& 0x1C ||| 1 ≠ n &&& 0x1C ||| 2 ∧ n &&& 0x1C ||| 1 ≠ n &&& 0x1C ||| 3 ∧
          n &&& 0x1C ||| 2 ≠ n &&& 0x1C ||| 3 := by revert n; decide
      obtain ⟨h01, h02, h03, h12, h13, h23⟩ := h1
      simp only [if_neg h03, if_neg h02, if_neg h01, if_neg h13, if_neg h12, if_neg h23, if_true]
      rw [← BitVec.toNat_ofNat]
      congr 1; ext i h; simp; grind
    · intro m hm
      simp only [precCovers, beq_eq_false_iff_ne, ne_eq] at hm
      have h0 : m ≠ n &&& 0x1C := by rintro rfl; revert hm; revert n; decide
      have h1 : m ≠ n &&& 0x1C ||| 1 := by rintro rfl; revert hm; revert n; decide
      have h2 : m ≠ n &&& 0x1C ||| 2 := by rintro rfl; revert hm; revert n; decide
      have h3 : m ≠ n &&& 0x1C ||| 3 := by rintro rfl; revert hm; revert n; decide
      simp only [State.writeFp, State.readF_writeFq, if_neg h0, if_neg h1, if_neg h2, if_neg h3]

/-- Reading an f register looks at `f` only. -/
theorem State.readF_congr {s t : State} (h : t.f = s.f) (n : RegNum) : t.readF n = s.readF n := by
  simp only [State.readF, h]

/-! ### icc, CWP and Y outside a window (70 R524) -/

theorem State.writeIcc_written (s : State) (i : Icc) : IccWritten s (s.writeIcc i) i := by
  intro h; simp [State.writeIcc, h]

theorem State.writeCwp_written (s : State) (w : BitVec 5) (h : s.inWindow .psr = false) : (s.writeCwp w).psr.cwp = w := by
  simp [State.writeCwp, h]

theorem State.writeY_written (s : State) (v : Word) : YWritten s (s.writeY v) v := by
  intro h; simp [State.writeY, h]

/-- Outside a window an instruction reads every state register as it is. -/
theorem State.seen_of_noPending {s : State} (h : s.pending = []) :
    s.seenIcc = s.psr.icc ∧ s.seenEc = s.psr.ec ∧ s.seenEf = s.psr.ef ∧ s.seenPil = s.psr.pil ∧ s.seenS = s.psr.s ∧
      s.seenPs = s.psr.ps ∧ s.seenEt = s.psr.et ∧ s.seenCwp = s.psr.cwp ∧ s.seenPsr = s.psr ∧ s.seenWim = s.wim ∧
      s.seenTba = s.tbr.tba ∧ s.seenY = s.y ∧ ∀ n, s.seenAsr n = s.asrValue n := by
  simp [State.seenIcc, State.seenEc, State.seenEf, State.seenPil, State.seenS, State.seenPs, State.seenEt, State.seenCwp,
    State.seenPsr, State.seenWim, State.seenTba, State.seenY, State.seenAsr, State.psrOpen, State.openMask, h]

theorem State.inWindow_of_noPending {s : State} (h : s.pending = []) (r : StateReg) : s.inWindow r = false := by
  simp [State.inWindow, h]

end Sys2Proof.Machine
end

