-- ==== Sys2Proof/Laws/Traps.lean ====
section
/-! SUPPORT. Taking a trap: what trap entry does with no window of a write state register instruction open, which values it
may use inside one, and error_mode. -/

namespace Sys2Proof.Machine

/-- A pick is one of its candidates. -/
theorem State.pick_mem {α : Type} (s : State) (i : FreeItem) (new : α) (olds : List α) :
    s.pick i new olds = new ∨ s.pick i new olds ∈ olds := by
  unfold State.pick
  cases h : olds[(s.draw i).toNat % (olds.length + 1)]? with
  | none => exact .inl rfl
  | some a => exact .inr (List.mem_of_getElem? h)

@[simp] theorem State.pick_nil {α : Type} (s : State) (i : FreeItem) (new : α) : s.pick i new [] = new := by
  simpa using s.pick_mem i new []

theorem State.trapCwp_of_noPending {s : State} (h : s.pending = []) : s.trapCwp = s.psr.cwp := by
  simp [State.trapCwp, State.olds, h]

theorem State.trapCwpLeft_of_noPending {s : State} (h : s.pending = []) : s.trapCwpLeft = s.psr.cwp := by
  simp [State.trapCwpLeft, State.trapCwp_of_noPending h]

theorem State.trapS_of_noPending {s : State} (h : s.pending = []) : s.trapS = s.psr.s := by
  simp [State.trapS, State.olds, h]

theorem State.trapTba_of_noPending {s : State} (h : s.pending = []) : s.trapTba = s.tbr.tba := by
  simp [State.trapTba, State.olds, h]

/-- Reading any r register after trap entry (60 R480, step 6). -/
theorem State.readRW_trapEntry (s : State) (tt : BitVec 8) (u : BitVec 5) (m : RegNum) :
    (s.trapEntry tt).readRW u m =
      if sameReg s u m (s.prevWindow s.trapCwp) 18 then s.npc
      else if sameReg s u m (s.prevWindow s.trapCwp) 17 then s.pc else s.readRW u m :=
  (State.readRW_congr (by simp [State.trapEntry]) rfl rfl u m).trans
    (State.readRW_writeRW_writeRW s (s.prevWindow s.trapCwp) 17 18 s.pc s.npc u m)

/-- What trap entry does in any state, windows included (60 R480, 70 R525). -/
theorem State.trapEntry_spec (s : State) (tt : BitVec 8) :
    (s.trapEntry tt).psr.et = false ∧ (s.trapEntry tt).psr.ps = s.trapS ∧ (s.trapEntry tt).psr.s = true ∧
      (s.trapEntry tt).psr.cwp = s.prevWindow s.trapCwpLeft ∧ (s.trapEntry tt).tbr.tt = tt ∧
      (s.trapEntry tt).tbr.tba = s.tbr.tba ∧ (s.trapEntry tt).pc = s.vector tt ∧
      (s.trapEntry tt).npc = s.vector tt + 4 ∧
      (s.trapEntry tt).pending = s.pending.map PendingWrite.throughTrap := by
  simp [State.trapEntry]

@[simp] theorem State.trapEntry_tba (s : State) (tt : BitVec 8) : (s.trapEntry tt).tbr.tba = s.tbr.tba := rfl

/-- Every window a trap finds open is one that read state register instructions do not notice in the handler. -/
theorem State.trapEntry_handled (s : State) (tt : BitVec 8) :
    ∀ p ∈ (s.trapEntry tt).pending, p.handled = true ∧ p.handlers ≠ 0 := by
  intro p hp
  obtain ⟨q, _, rfl⟩ := List.mem_map.mp (show p ∈ s.pending.map PendingWrite.throughTrap from hp)
  exact ⟨rfl, Nat.succ_ne_zero _⟩

/-- In a handler of a trap taken in every open window, read state register instructions find no window. -/
theorem State.settled_of_handlers {s : State} (h : ∀ p ∈ s.pending, p.handlers ≠ 0) : s.settled.pending = [] := by
  simpa [State.settled] using h

/-- Outside every handler of a trap taken in a window, read state register instructions find what any read finds. -/
theorem State.settled_of_no_handlers {s : State} (h : ∀ p ∈ s.pending, p.handlers = 0) : s.settled = s := by
  have : s.pending.filter (fun p => p.handlers == 0) = s.pending := List.filter_eq_self.mpr (by simpa using h)
  simp only [State.settled, this]

/-- With no window open, trap entry is as 60 R480 writes it. -/
theorem State.trapEntry_entered {s : State} (h : s.pending = []) (tt : BitVec 8) :
    TrapEntered s (s.trapEntry tt) tt := by
  have hc := State.trapCwp_of_noPending h
  have hl := State.trapCwpLeft_of_noPending h
  have hcwp : (s.trapEntry tt).psr.cwp = s.prevWindow s.psr.cwp := by
    rw [← hl]; rfl
  refine ⟨rfl, State.trapS_of_noPending h, rfl, ?_, rfl, ?_, ?_, rfl, ?_⟩
  · rw [hcwp, State.prevWindow_toNat]
  · intro u m
    rw [State.readRW_trapEntry, hc, hcwp]
  · show s.trapTba ++ tt ++ 0#4 = _
    rw [State.trapTba_of_noPending h]
  · intro p hp
    cases p <;> simp_all [Part.same]
    intro n; exact State.readF_congr (by simp) n

/-- With traps enabled, a trap condition is trap entry. -/
theorem State.trap_of_et {s : State} (h : s.seenEt = true) (t : Trap) : s.trap t = s.trapEntry t.tt := by
  simp [State.trap, h]

/-- With no window open and traps enabled, fp_exception with ftt = k is trap entry (60 R478). -/
theorem State.raiseFp_entered {s : State} (he : s.seenEt = true) (h : s.pending = []) (k : BitVec 3) :
    ∃ t, s.raiseFp k = .next t ∧ TrapEntered { s with fsr := { s.fsr with ftt := k } } t Trap.fpException.tt :=
  ⟨_, by rw [State.raiseFp, if_pos he],
    State.trapEntry_entered (s := { s with fsr := { s.fsr with ftt := k } }) h Trap.fpException.tt⟩

/-- The same of a deferred floating-point trap, which is then pending no more (60 R476). -/
theorem State.takeDeferred_entered {s : State} (he : s.seenEt = true) (h : s.pending = []) (k : BitVec 3) :
    ∃ t, s.takeDeferred k = .next t ∧
      TrapEntered { s with fpPending := none, fsr := { s.fsr with ftt := k } } t Trap.fpException.tt :=
  ⟨_, by rw [State.takeDeferred, if_pos he],
    State.trapEntry_entered (s := { s with fpPending := none, fsr := { s.fsr with ftt := k } }) h Trap.fpException.tt⟩

/-- The same of cp_exception (60 R479). -/
theorem State.raiseCp_entered {s : State} (he : s.seenEt = true) (h : s.pending = []) :
    ∃ t, s.raiseCp = .next t ∧ TrapEntered { s with cpExc := false } t Trap.cpException.tt :=
  ⟨_, by rw [State.raiseCp, if_pos he],
    State.trapEntry_entered (s := { s with cpExc := false }) h Trap.cpException.tt⟩

/-- With traps disabled, a trap condition is error_mode. -/
theorem State.trap_of_not_et {s : State} (h : s.seenEt = false) (t : Trap) : s.trap t = s.errorHalt t := by
  simp [State.trap, h]

/-- `error_halt` changes tt and nothing else (60 R484). -/
theorem State.errorHalt_halted (s : State) (t : Trap) : Halted s (s.errorHalt t) t := by
  refine ⟨rfl, rfl, fun p hp => ?_⟩
  cases p <;> simp_all [Part.same]
  intro n; rfl

end Sys2Proof.Machine
end

