-- ==== Sys2Proof/Laws/Access.lean ====
section
/-! SUPPORT. The shared operations of loads, stores and atomics: what every next state of theirs is (`…_always`), and when
they complete (`…_complete`). -/

namespace Sys2Proof.Machine

variable {P : State → Prop} {s : State}

@[simp] theorem always_next (t : State) : Always P (.next t) = P t := rfl
@[simp] theorem always_fault (r : Fault) : Always P (.fault r) = True := rfl
@[simp] theorem always_refused (r : Refusal) : Always P (.refused r) = True := rfl
@[simp] theorem always_raise (t : Trap) : Always P (s.raise t) = P (s.trap t) := rfl

/-- Every next state of an outcome has a property that always holds of it. -/
theorem Always.of_next {o : Out} {t : State} (h : Always P o) (e : o = .next t) : P t := by subst e; exact h

theorem always_iff {o : Out} : Always P o ↔ ∀ t, o = .next t → P t := by
  cases o <;> simp [Always]

theorem readAt_always {α : Type} {kind : AccessKind} {n : Nat} {read : Memory → Nat → Option α} {spoiled : State → State}
    {asi : Asi} {ea : Word} {k : Nat → α → State → Out} (ht : ∀ t, P ((spoiled s).trap t))
    (hk : ∀ key v, read s.mem key = some v → Always P (k key v s)) : Always P (readAt kind n read spoiled asi ea k s) := by
  unfold readAt
  cases s.locate kind asi ea n s.seenS with
  | trap t => exact ht t
  | absent => trivial
  | found key =>
    dsimp only
    cases h : read s.mem key with
    | none => trivial
    | some v => exact hk key v h

theorem loadAt_always {α : Type} {n : Nat} {read : Memory → Nat → Option α} {write : α → State → State}
    {spoiled : State → State} {asi : Asi} {ea : Word} (hm : ∀ t, P (s.trap t)) (ht : ∀ t, P ((spoiled s).trap t))
    (hk : ∀ v, P (write v s).advance) : Always P (loadAt n read write spoiled asi ea s) := by
  unfold loadAt
  split
  · exact hm _
  · exact readAt_always ht (fun _ v _ => hk v)

theorem storeAt_always {n : Nat} {store : Nat → State → State} {spoiled : Nat → State → State} {asi : Asi} {ea : Word}
    (hm : ∀ t, P (s.trap t)) (ht : ∀ key t, P ((spoiled key s).trap t)) (hk : ∀ key, P (store key s).advance) :
    Always P (storeAt n store spoiled asi ea s) := by
  unfold storeAt
  split
  · exact hm _
  · split
    · split
      · exact hm _
      · exact ht _ _
    · trivial
    · exact hk _

theorem atomicAt_always {α : Type} {n : Nat} {read : Memory → Nat → Option α} {store : Nat → State → State}
    {write : α → State → State} {spoiled : State → State} {asi : Asi} {ea : Word} (hm : ∀ t, P (s.trap t))
    (ht : ∀ t, P ((spoiled s).trap t)) (hk : ∀ key v, P (write v (store key s)).advance) :
    Always P (atomicAt n read store write spoiled asi ea s) := by
  unfold atomicAt
  split
  · exact hm _
  · exact readAt_always ht (fun key v _ => hk key v)

theorem ordinary_always {double : Bool} {rd rs1 : RegNum} {operand : Operand2} {k : Asi → Word → State → Out}
    (hm : ∀ t, P (s.trap t)) (hk : ∀ asi ea, Always P (k asi ea s)) : Always P (ordinary double rd rs1 operand k s) := by
  unfold ordinary
  split
  · exact hm _
  · exact hk _ _

theorem alternate_always {double : Bool} {rd rs1 : RegNum} {operand : AltOperand} {k : Asi → Word → State → Out}
    (hm : ∀ t, P (s.trap t)) (hk : s.seenS = true → ∀ asi ea, Always P (k asi ea s)) :
    Always P (alternate double rd rs1 operand k s) := by
  unfold alternate
  split
  · exact hm _
  · rename_i hs
    cases operand with
    | imm _ => exact hm _
    | reg asi rs2 =>
      dsimp only
      split
      · exact hm _
      · exact hk (by simpa using hs) _ _

theorem raiseFp_always {k : BitVec 3} (h1 : P ({ s with fsr := { s.fsr with ftt := k } }.trapEntry Trap.fpException.tt))
    (h2 : P (s.errorHalt .fpException)) : Always P (s.raiseFp k) := by
  unfold State.raiseFp
  split
  · exact h1
  · exact h2

theorem raiseCp_always (h1 : P ({ s with cpExc := false }.trapEntry Trap.cpException.tt))
    (h2 : P (s.errorHalt .cpException)) : Always P s.raiseCp := by
  unfold State.raiseCp
  split
  · exact h1
  · exact h2

theorem fpAccess_always {privileged sequenced double : Bool} {n : Nat} {rd rs1 : RegNum} {operand : Operand2}
    {k : Asi → Word → State → Out} (hm : ∀ t, P (s.trap t)) (hf : ∀ ftt, Always P (s.raiseFp ftt))
    (hk : ∀ asi ea, Always P (k asi ea s)) : Always P (fpAccess privileged sequenced double n rd rs1 operand k s) := by
  unfold fpAccess
  split
  · exact hm _
  · split
    · exact hm _
    · split
      · exact hm _
      · split
        · exact hf _
        · split
          · exact hf _
          · exact hk _ _

theorem cpAccess_always {privileged : Bool} {n : Nat} {rs1 : RegNum} {operand : Operand2} {k : Asi → Word → State → Out}
    (hm : ∀ t, P (s.trap t)) (hc : Always P s.raiseCp) (hk : ∀ asi ea, Always P (k asi ea s)) :
    Always P (cpAccess privileged n rs1 operand k s) := by
  unfold cpAccess
  split
  · exact hm _
  · split
    · exact hm _
    · split
      · exact hm _
      · split
        · exact hc
        · exact hk _ _

/-! ### Completion -/

theorem aligned_iff (n : Nat) (ea : Word) : aligned n ea = true ↔ ea.toNat % n = 0 := by simp [aligned]

theorem readAt_complete {α : Type} {kind : AccessKind} {n : Nat} {read : Memory → Nat → Option α}
    {spoiled : State → State} {asi : Asi} {ea : Word} {k : Nat → α → State → Out} {key : Nat} {v : α}
    (hl : s.locate kind asi ea n s.seenS = .found key) (hr : read s.mem key = some v) :
    readAt kind n read spoiled asi ea k s = k key v s := by
  simp only [readAt, hl, hr]

theorem loadAt_complete {α : Type} {n : Nat} {read : Memory → Nat → Option α} {write : α → State → State}
    {spoiled : State → State} {asi : Asi} {ea : Word} {key : Nat} {v : α} (ha : ea.toNat % n = 0)
    (hl : s.locate .read asi ea n s.seenS = .found key) (hr : read s.mem key = some v) :
    loadAt n read write spoiled asi ea s = .next (write v s).advance := by
  simp only [loadAt, (aligned_iff n ea).mpr ha, Bool.not_true, Bool.false_eq_true, if_false, readAt_complete hl hr]

theorem storeAt_complete {n : Nat} {store : Nat → State → State} {spoiled : Nat → State → State} {asi : Asi} {ea : Word}
    {key : Nat} (ha : ea.toNat % n = 0) (hl : s.locate .write asi ea n s.seenS = .found key) :
    storeAt n store spoiled asi ea s = .next (store key s).advance := by
  simp only [storeAt, (aligned_iff n ea).mpr ha, Bool.not_true, Bool.false_eq_true, if_false, hl]

theorem atomicAt_complete {α : Type} {n : Nat} {read : Memory → Nat → Option α} {store : Nat → State → State}
    {write : α → State → State} {spoiled : State → State} {asi : Asi} {ea : Word} {key : Nat} {v : α}
    (ha : ea.toNat % n = 0) (hl : s.locate .atomic asi ea n s.seenS = .found key) (hr : read s.mem key = some v) :
    atomicAt n read store write spoiled asi ea s = .next (write v (store key s)).advance := by
  simp only [atomicAt, (aligned_iff n ea).mpr ha, Bool.not_true, Bool.false_eq_true, if_false, readAt_complete hl hr]

/-! ### Where the oracle answers (20 R84, R90) -/

theorem loadAt_faults {α : Type} {n : Nat} {read : Memory → Nat → Option α} {write : α → State → State}
    {spoiled : State → State} {asi : Asi} {ea : Word} {x : Trap} (h : AccessFaults s .read asi ea n x) :
    loadAt n read write spoiled asi ea s = .next ((spoiled s).trap x) := by
  simp [loadAt, (aligned_iff n ea).mpr h.1, readAt, h.2, State.raise]

theorem atomicAt_faults {α : Type} {n : Nat} {read : Memory → Nat → Option α} {store : Nat → State → State}
    {write : α → State → State} {spoiled : State → State} {asi : Asi} {ea : Word} {x : Trap}
    (h : AccessFaults s .atomic asi ea n x) :
    atomicAt n read store write spoiled asi ea s = .next ((spoiled s).trap x) := by
  simp [atomicAt, (aligned_iff n ea).mpr h.1, readAt, h.2, State.raise]

theorem storeAt_faults {n : Nat} {store : Nat → State → State} {spoiled : Nat → State → State} {asi : Asi} {ea : Word}
    {x : Trap} (h : AccessFaults s .write asi ea n x) :
    storeAt n store spoiled asi ea s =
      .next (match s.bankOf asi with | none => s.trap x | some b => (spoiled (Memory.key b ea) s).trap x) := by
  simp only [storeAt, (aligned_iff n ea).mpr h.1, h.2]
  cases s.bankOf asi <;> rfl

/-- The one answer of the oracle about a register is r_register_access_error. -/
theorem State.registerTrap_eq {n : RegNum} {x : Trap} (h : s.registerTrap n = some x) : x = .rRegisterAccessError := by
  simp only [State.registerTrap, State.memFault, Option.map_eq_some_iff] at h
  obtain ⟨r, hr, rfl⟩ := h
  have hc := List.find?_some hr
  simp only [FaultRule.covers, Bool.and_eq_true] at hc
  have hl := hc.2
  cases hx : r.trap <;> rw [hx] at hl <;> first | rfl | cases hl

theorem ordinary_complete {double : Bool} {rd rs1 : RegNum} {operand : Operand2} {k : Asi → Word → State → Out}
    (hd : oddRdTrap s double rd = false) :
    ordinary double rd rs1 operand k s = k s.dataAsi (s.effectiveAddress rs1 operand) s := by
  simp [ordinary, hd]

theorem alternate_complete {double : Bool} {rd rs1 : RegNum} {asi : Asi} {rs2 : RegNum} {k : Asi → Word → State → Out}
    (hs : s.seenS = true) (hd : oddRdTrap s double rd = false) :
    alternate double rd rs1 (.reg asi rs2) k s = k asi (s.readR rs1 + s.readR rs2) s := by
  simp [alternate, hs, hd]

@[simp] theorem oddRdTrap_single (rd : RegNum) : oddRdTrap s false rd = false := rfl

theorem fpAccess_complete {privileged sequenced double : Bool} {n : Nat} {rd rs1 : RegNum} {operand : Operand2}
    {k : Asi → Word → State → Out} (hp : privileged = true → s.seenS = true) (he : s.fpEnabled = true)
    (ha : (s.effectiveAddress rs1 operand).toNat % n = 0) (hx : sequenced = true → s.fpInException = false)
    (hd : double = true → s.cfg.fregAlignTraps = true → rd.getLsbD 0 = false) :
    fpAccess privileged sequenced double n rd rs1 operand k s = k s.dataAsi (s.effectiveAddress rs1 operand) s := by
  have h1 : (privileged && !s.seenS) = false := by cases privileged <;> simp_all
  have h2 : (sequenced && s.fpInException) = false := by cases sequenced <;> simp_all
  have h3 : (double && s.cfg.fregAlignTraps && rd.getLsbD 0) = false := by
    cases double <;> cases h : s.cfg.fregAlignTraps <;> simp_all
  simp only [fpAccess, h1, he, (aligned_iff n _).mpr ha, h2, h3, Bool.not_true, Bool.false_eq_true, if_false]

theorem cpAccess_complete {privileged : Bool} {n : Nat} {rs1 : RegNum} {operand : Operand2} {k : Asi → Word → State → Out}
    (hp : privileged = true → s.seenS = true) (he : s.cpEnabled = true)
    (ha : (s.effectiveAddress rs1 operand).toNat % n = 0) (hx : s.cpExc = false) :
    cpAccess privileged n rs1 operand k s = k s.dataAsi (s.effectiveAddress rs1 operand) s := by
  have h1 : (privileged && !s.seenS) = false := by cases privileged <;> simp_all
  simp only [cpAccess, h1, he, (aligned_iff n _).mpr ha, hx, Bool.not_true, Bool.false_eq_true, if_false]

/-! ### Every byte after a store -/

theorem State.store1_stored (s : State) (k : Nat) (v : Byte) : Stored s (s.store1 k v) k 1 v.toNat := by
  intro j
  show ((s.mem.write1 k v).read1 j) = _
  rw [Memory.read1_write1]
  by_cases h : j = k
  · subst h; rw [if_pos rfl, if_pos (by omega)]; simp [byteOf]
  · rw [if_neg h, if_neg (by omega)]

theorem State.store2_stored (s : State) (k : Nat) (v : Half) : Stored s (s.store2 k v) k 2 v.toNat :=
  Memory.read1_write2 s.mem k v

theorem State.store4_stored (s : State) (k : Nat) (v : Word) : Stored s (s.store4 k v) k 4 v.toNat :=
  Memory.read1_write4 s.mem k v

theorem State.store8_stored (s : State) (k : Nat) (v : Dword) : Stored s (s.store8 k v) k 8 v.toNat :=
  Memory.read1_write8 s.mem k v

/-! ### Coprocessor loads and stores -/

/-- What LDC leaves in the coprocessor (40 R158). -/
theorem loadC_cp (s : State) (rd : RegNum) (v : Word) :
    CpRegsWritten (Config.cpMoved (.ldc rd v) s.cp) (s.loadC rd v).cp (fun n => if n = rd then some v else none) := by
  refine ⟨rfl, rfl, rfl, fun n => ?_⟩
  have h := State.readC_writeC (s.cpMove (.ldc rd v)) rd v n
  simp only [State.readC, State.cpMove_cp] at h
  rw [State.loadC, h]
  by_cases e : n = rd <;> simp only [e, if_true, if_false, Option.getD_some, Option.getD_none]

theorem oddReg_of_even : ∀ rd : RegNum, rd.getLsbD 0 = false → oddReg rd = rd + 1 ∧ rd ≠ rd + 1 := by decide

theorem getLsbD_zero_iff : ∀ rd : RegNum, rd.getLsbD 0 = true ↔ rd.toNat % 2 = 1 := by decide

/-- What LDDC leaves in the coprocessor (40 R159). -/
theorem loadCPair_cp (s : State) (rd : RegNum) (v : Dword) :
    CpRegsWritten (Config.cpMoved (.lddc rd v) s.cp) (s.loadCPair rd v).cp (cpPairWords rd v) := by
  unfold State.loadCPair cpPairWords
  simp only [← getLsbD_zero_iff]
  split
  · exact ⟨rfl, rfl, rfl, fun n => rfl⟩
  · next ho =>
    obtain ⟨h1, h2⟩ := oddReg_of_even rd (by simpa using ho)
    rw [h1]
    refine ⟨rfl, rfl, rfl, fun n => ?_⟩
    have a := State.readC_writeC ((s.cpMove (.lddc rd v)).writeC rd (Config.cpLoadPair rd v).1) (rd + 1)
      (Config.cpLoadPair rd v).2 n
    have b := State.readC_writeC (s.cpMove (.lddc rd v)) rd (Config.cpLoadPair rd v).1 n
    simp only [State.readC, State.cpMove_cp] at a b
    rw [a, b]
    by_cases e : n = rd
    · subst e
      simp only [h2, if_true, if_false, Option.getD_some]
    · by_cases e' : n = rd + 1
      · simp only [e', Ne.symm h2, if_true, if_false, Option.getD_some]
      · simp only [e, e', if_false, Option.getD_none]

/-- The doubleword STDC stores (41 R186). -/
theorem cPair_eq (s : State) (rd : RegNum) : s.cPair rd =
    if rd.toNat % 2 = 0 then Config.cpStorePair rd (s.readC rd) (s.readC (rd + 1)) else Config.cpStoreOdd rd s.cp := by
  unfold State.cPair
  have h := getLsbD_zero_iff rd
  split
  · next ho => rw [if_neg (by have := h.1 ho; omega)]
  · next ho => rw [if_pos (by have := mt h.2 ho; omega), (oddReg_of_even rd (by simpa using ho)).1]

end Sys2Proof.Machine
end

