-- ==== Sys2Proof/Laws/Operate.lean ====
section
/-! SUPPORT. The shared operations of branches, FPops and CPops: what every next state of theirs is (`…_always`), and when
they complete (`…_complete`); and which instructions are privileged. -/

namespace Sys2Proof.Machine

variable {P : State → Prop} {s : State}

/-! ### TN -/

/-- TN reads no r register (47 R357; log 36). -/
theorem sourceRegisters_tn {w : Word} (hop : w.extractLsb' 30 2 = 0x2) (h : trapsNever w = true) : sourceRegisters w = [] := by
  simp [sourceRegisters, hop, h]

/-- So the register oracle stops no TN. -/
theorem registerFault_tn {w : Word} (hop : w.extractLsb' 30 2 = 0x2) (h : trapsNever w = true) (s : State) :
    s.registerFault w = none := by
  simp [State.registerFault, sourceRegisters_tn hop h]

/-! ### Branches -/

theorem branchTarget_eq (s : State) (disp22 : BitVec 22) :
    s.branchTarget disp22 = s.pc + BitVec.ofInt 32 (4 * disp22.toInt) := by
  unfold State.branchTarget
  congr 1
  apply BitVec.eq_of_toInt_eq
  rw [BitVec.toInt_signExtend_of_le (by omega), BitVec.toInt_ofInt]
  have h1 := disp22.toInt_lt
  have h2 := disp22.le_toInt
  have h3 : (disp22 ++ 0#2).toInt = 4 * disp22.toInt := by
    have hn : (disp22 ++ 0#2).toNat = 4 * disp22.toNat := by
      rw [BitVec.toNat_append]; simp [Nat.shiftLeft_eq]; omega
    simp only [BitVec.toInt_eq_toNat_cond, hn]
    split <;> split <;> omega
  rw [h3]
  simp only [Int.bmod_def]
  split <;> omega

theorem takeDeferred_always {k : BitVec 3}
    (h1 : P ({ s with fpPending := none, fsr := { s.fsr with ftt := k } }.trapEntry Trap.fpException.tt))
    (h2 : P (s.errorHalt .fpException)) : Always P (s.takeDeferred k) := by
  unfold State.takeDeferred
  split
  · exact h1
  · exact h2

theorem fbfcc_always {k : State → State} {a : Bool} {disp22 : BitVec 22} (hm : ∀ t, P (s.trap t))
    (hd : ∀ ftt, Always P (s.takeDeferred ftt)) (hq : ∀ ftt, Always P (s.raiseFp ftt))
    (ha : P (s.branchAlways a disp22)) (hf : ∀ b, P (s.branchIf b a disp22)) (hk : P (k s)) :
    Always P (fbfcc k a disp22 s) := by
  unfold fbfcc
  split
  · exact hm _
  · split
    · exact hd _
    · split
      · exact hq _
      · simp only [always_next, State.branchAny]; split
        · split
          · exact ha
          · exact hf _
        · exact hk

theorem fbfcc_complete {k : State → State} {a : Bool} {disp22 : BitVec 22} (he : s.fpEnabled = true)
    (hd : s.deferredTrap = none) (hq : s.qne = false) (hf : s.afterFpop2 = false) : fbfcc k a disp22 s = .next (k s) := by
  simp [fbfcc, he, hd, hq, hf]

theorem cbccc_always {k : State → State} (hm : ∀ t, P (s.trap t)) (hc : Always P s.raiseCp) (hk : P (k s)) :
    Always P (cbccc k s) := by
  unfold cbccc
  split
  · exact hm _
  · split
    · exact hc
    · exact hk

theorem cbccc_complete {k : State → State} (he : s.cpEnabled = true) (hx : s.cpExc = false) :
    cbccc k s = .next (k s) := by
  simp [cbccc, he, hx]

/-! ### FPops -/

theorem fpopReady_always {k : State → Out} (hm : ∀ t, P (s.trap t)) (hd : ∀ ftt, Always P (s.takeDeferred ftt))
    (hf : ∀ ftt, Always P (s.raiseFp ftt)) (hk : Always P (k s)) : Always P (fpopReady k s) := by
  unfold fpopReady
  split
  · exact hm _
  · split
    · exact hd _
    · split
      · exact hf _
      · exact hk

theorem fpopChecks_always {regs : List (Prec × RegNum)} {k : State → Out} (hm : ∀ t, P (s.trap t))
    (hd : ∀ ftt, Always P (s.takeDeferred ftt)) (hf : ∀ ftt, Always P (s.raiseFp ftt)) (hk : Always P (k s)) :
    Always P (fpopChecks regs k s) := by
  refine fpopReady_always hm hd hf ?_
  split
  · exact hf _
  · exact hk

theorem fpopChecks_complete {regs : List (Prec × RegNum)} {k : State → Out} (h : FpReady s regs) :
    fpopChecks regs k s = k s := by
  have ha : (s.cfg.fregAlignTraps && !regsAligned regs) = false := by
    cases hf : s.cfg.fregAlignTraps <;> simp [h.aligned, hf]
  simp only [fpopChecks, fpopReady, h.enabled, h.noTrap, h.noQueue, ha, Bool.not_true, Bool.false_eq_true, if_false]

theorem fpComplete_always {exc : BitVec 5} {write last : State → State} (hc : P (last (s.completeFpop exc write)))
    (hd : P (last (s.deferIeee exc)))
    (ht : P ({ s with fsr := { s.fsr with ftt := 1, cexc := trappedBits exc s.fsr.tem } }.trapEntry Trap.fpException.tt))
    (hh : P (s.errorHalt .fpException)) : Always P (fpComplete exc write last s) := by
  unfold fpComplete
  split
  · exact hc
  · split
    · exact hd
    · unfold State.raiseIeee
      split
      · exact ht
      · exact hh

theorem fpComplete_complete {exc : BitVec 5} {write last : State → State} (h : exc &&& s.fsr.tem = 0) :
    fpComplete exc write last s = .next (last (s.completeFpop exc write)) := by
  rw [fpComplete, if_pos h]

theorem nsResult_standard (d : Bool) (r : FpResult) (h : s.fsr.ns = false) : s.nsResult d r = r := by
  simp [State.nsResult, h]

theorem compareResult_standard (p : Prec) (q : Bool) (rs1 rs2 : RegNum) (h : s.fsr.ns = false) :
    s.compareResult p q rs1 rs2 = fpCompare p.format q (s.readFp p rs1) (s.readFp p rs2) := by
  simp [State.compareResult, h]

/-! ### CPops -/

theorem cpop_always {k : State → Cp} (hm : ∀ t, P (s.trap t)) (hc : Always P s.raiseCp)
    (hk : P { s with cp := k s }.advance) : Always P (cpop k s) := by
  unfold cpop
  split
  · exact hm _
  · split
    · exact hc
    · exact hk

theorem cpop_complete {k : State → Cp} (he : s.cpEnabled = true) (hx : s.cpExc = false) :
    cpop k s = .next { s with cp := k s }.advance := by
  simp [cpop, he, hx]

/-! ### Instructions an implementation leaves to software -/

theorem asrImplementation_iff (n : RegNum) : asrImplementation n = true ↔ 16 ≤ n.toNat := by
  revert n; decide

/-- What `State.asrPrivileged` says (48 R382). -/
theorem asrPrivileged_iff (s : State) (n : RegNum) : s.asrPrivileged n = true ↔
    16 ≤ n.toNat ∧ ∃ a, s.cfg.asrs.find? (fun b => b.num == n) = some a ∧ a.privileged = true := by
  simp only [State.asrPrivileged, State.asrSpec, Bool.and_eq_true, asrImplementation_iff, Option.any_eq_true]

theorem asrOf_iff (i : Instr) (n : RegNum) : asrOf i = some n ↔ NamesAsr i n := by
  constructor
  · intro h
    cases i <;> simp only [asrOf, reduceCtorEq, Option.some.injEq] at h
    case rdasr rd source => exact .inl ⟨rd, source.low, by rw [← h]⟩
    case wrasr rd rs1 o => exact .inr ⟨rs1, o, by rw [h]⟩
  · rintro (⟨rd, low, rfl⟩ | ⟨rs1, o, rfl⟩) <;> rfl

theorem privilegedMnemonics_contains (i : Instr) : privilegedMnemonics.contains i.mnemonic = i.privileged := by
  cases i <;> simp only [Instr.mnemonic, Instr.privileged] <;> decide

/-- What `needsSupervisor` says (60 R491). -/
theorem needsSupervisor_iff (s : State) (i : Instr) : needsSupervisor i s = true ↔ NeedsSupervisor s i := by
  simp only [needsSupervisor, Bool.or_eq_true, privilegedMnemonics_contains, Option.any_eq_true, asrPrivileged_iff,
    asrOf_iff, NeedsSupervisor]
  tauto
end Sys2Proof.Machine
end

