-- ==== Sys2Proof/Laws/PerInstr.lean ====
section
/-! SUPPORT. Decoding what `encode` writes gives the instruction back: the lemmas about the formats' fields, then one
lemma for each constructor (family RoundTrip of LAWS.json). -/

namespace Sys2Proof.Laws

theorem operand2Of_bits (o : Operand2) : operand2Of o.bits = o := by
  cases o with
  | reg rs2 =>
    have h0 : (0#1 ++ 0#8 ++ rs2).getLsbD 13 = false := by rw [BitVec.getLsbD_append]; simp
    have h1 : (0#1 ++ 0#8 ++ rs2).extractLsb' 0 5 = rs2 := by ext i h; simp; grind
    simp only [operand2Of, Operand2.bits, h0, h1, Bool.false_eq_true, if_false]
  | imm simm13 =>
    have h0 : (1#1 ++ simm13).getLsbD 13 = true := by rw [BitVec.getLsbD_append]; simp
    have h1 : (1#1 ++ simm13).extractLsb' 0 13 = simm13 := by ext i h; simp; grind
    simp only [operand2Of, Operand2.bits, h0, h1, if_true]

theorem altOperandOf_bits (o : AltOperand) : altOperandOf o.bits = o := by
  cases o with
  | reg asi rs2 =>
    have h0 : (0#1 ++ asi ++ rs2).getLsbD 13 = false := by rw [BitVec.getLsbD_append, BitVec.getLsbD_append]; simp
    have h1 : (0#1 ++ asi ++ rs2).extractLsb' 0 5 = rs2 := by ext i h; simp; grind
    have h2 : (0#1 ++ asi ++ rs2).extractLsb' 5 8 = asi := by ext i h; simp; grind
    simp only [altOperandOf, AltOperand.bits, h0, h1, h2, Bool.false_eq_true, if_false]
  | imm low13 =>
    have h0 : (1#1 ++ low13).getLsbD 13 = true := by rw [BitVec.getLsbD_append]; simp
    have h1 : (1#1 ++ low13).extractLsb' 0 13 = low13 := by ext i h; simp; grind
    simp only [altOperandOf, AltOperand.bits, h0, h1, if_true]

theorem asrOperandOf_bits (o : AsrOperand) : asrOperandOf o.bits = o := by
  cases o with
  | reg bits rs2 =>
    have h0 : (0#1 ++ bits ++ rs2).getLsbD 13 = false := by rw [BitVec.getLsbD_append, BitVec.getLsbD_append]; simp
    have h1 : (0#1 ++ bits ++ rs2).extractLsb' 0 5 = rs2 := by ext i h; simp; grind
    have h2 : (0#1 ++ bits ++ rs2).extractLsb' 5 8 = bits := by ext i h; simp; grind
    simp only [asrOperandOf, AsrOperand.bits, h0, h1, h2, Bool.false_eq_true, if_false]
  | imm simm13 =>
    have h0 : (1#1 ++ simm13).getLsbD 13 = true := by rw [BitVec.getLsbD_append]; simp
    have h1 : (1#1 ++ simm13).extractLsb' 0 13 = simm13 := by ext i h; simp; grind
    simp only [asrOperandOf, AsrOperand.bits, h0, h1, if_true]

theorem shiftCountOf_bits (o : ShiftCount) : shiftCountOf o.bits = o := by
  cases o with
  | reg rs2 =>
    have h0 : (0#1 ++ 0#8 ++ rs2).getLsbD 13 = false := by rw [BitVec.getLsbD_append]; simp
    have h1 : (0#1 ++ 0#8 ++ rs2).extractLsb' 0 5 = rs2 := by ext i h; simp; grind
    simp only [shiftCountOf, ShiftCount.bits, h0, h1, Bool.false_eq_true, if_false]
  | imm shcnt =>
    have h0 : (1#1 ++ 0#8 ++ shcnt).getLsbD 13 = true := by rw [BitVec.getLsbD_append]; simp
    have h1 : (1#1 ++ 0#8 ++ shcnt).extractLsb' 0 5 = shcnt := by ext i h; simp; grind
    simp only [shiftCountOf, ShiftCount.bits, h0, h1, if_true]

theorem trapOperandOf_bits (o : TrapOperand) : trapOperandOf o.bits = o := by
  cases o with
  | reg rs2 =>
    have h0 : (0#1 ++ 0#8 ++ rs2).getLsbD 13 = false := by rw [BitVec.getLsbD_append]; simp
    have h1 : (0#1 ++ 0#8 ++ rs2).extractLsb' 0 5 = rs2 := by ext i h; simp; grind
    simp only [trapOperandOf, TrapOperand.bits, h0, h1, Bool.false_eq_true, if_false]
  | imm imm7 =>
    have h0 : (1#1 ++ 0#6 ++ imm7).getLsbD 13 = true := by rw [BitVec.getLsbD_append]; simp
    have h1 : (1#1 ++ 0#6 ++ imm7).extractLsb' 0 7 = imm7 := by ext i h; simp; grind
    simp only [trapOperandOf, TrapOperand.bits, h0, h1, if_true]

theorem format3_op (op rd op3 rs1 low) : (format3 op rd op3 rs1 low).extractLsb' 30 2 = op := by
  ext i h; simp [format3]; grind
theorem format3_rd (op rd op3 rs1 low) : (format3 op rd op3 rs1 low).extractLsb' 25 5 = rd := by
  ext i h; simp [format3]; grind
theorem format3_op3 (op rd op3 rs1 low) : (format3 op rd op3 rs1 low).extractLsb' 19 6 = op3 := by
  ext i h; simp [format3]; grind
theorem format3_rs1 (op rd op3 rs1 low) : (format3 op rd op3 rs1 low).extractLsb' 14 5 = rs1 := by
  ext i h; simp [format3]; grind
theorem format3_low (op rd op3 rs1 low) : (format3 op rd op3 rs1 low).extractLsb' 0 14 = low := by
  ext i h; simp [format3]; grind

theorem format2_op (high op2 imm22) : (format2 high op2 imm22).extractLsb' 30 2 = 0 := by
  ext i h; simp [format2]; grind
theorem format2_high (high op2 imm22) : (format2 high op2 imm22).extractLsb' 25 5 = high := by
  ext i h; simp [format2]; grind
theorem format2_op2 (high op2 imm22) : (format2 high op2 imm22).extractLsb' 22 3 = op2 := by
  ext i h; simp [format2]; grind
theorem format2_imm22 (high op2 imm22) : (format2 high op2 imm22).extractLsb' 0 22 = imm22 := by
  ext i h; simp [format2]; grind

/-- Format 2 words are decoded by their fields. -/
theorem decode_format2 (high op2 imm22) : decode (format2 high op2 imm22) = decodeFormat2 high op2 imm22 := by
  simp only [decode, format2_op, format2_high, format2_op2, format2_imm22]
  rfl

/-- Format 3 words with op = 2 are decoded by their fields. -/
theorem decode_operate (rd op3 rs1 low) : decode (format3 2 rd op3 rs1 low) = decodeOperate rd op3 rs1 low := by
  simp only [decode, format3_op, format3_rd, format3_op3, format3_rs1, format3_low]
  rfl

/-- Format 3 words with op = 3 are decoded by their fields. -/
theorem decode_memory (rd op3 rs1 low) : decode (format3 3 rd op3 rs1 low) = decodeMemory rd op3 rs1 low := by
  simp only [decode, format3_op, format3_rd, format3_op3, format3_rs1, format3_low]
  rfl

theorem branch_cond (a : Bool) (cond : BitVec 4) : (BitVec.ofBool a ++ cond).extractLsb' 0 4 = cond := by
  ext i h; simp; grind
theorem branch_annul (a : Bool) (cond : BitVec 4) : (BitVec.ofBool a ++ cond).getLsbD 4 = a := by
  rw [BitVec.getLsbD_append]; cases a <;> simp
theorem ticc_cond (cond : BitVec 4) : (0#1 ++ cond).extractLsb' 0 4 = cond := by
  ext i h; simp; grind
theorem operate_opf (opf : BitVec 9) (rs2 : RegNum) : (opf ++ rs2).extractLsb' 5 9 = opf := by
  ext i h; simp; grind
theorem operate_rs2 (opf : BitVec 9) (rs2 : RegNum) : (opf ++ rs2).extractLsb' 0 5 = rs2 := by
  ext i h; simp; grind

/-- Bicc words are decoded by their condition. -/
theorem decode_bicc (a : Bool) (cond : BitVec 4) (disp22 : BitVec 22) :
    decode (branchWord a cond 2 disp22) = .instr (decodeBicc cond a disp22) := by
  rw [branchWord, decode_format2]
  show Decoded.instr (decodeBicc _ _ _) = _
  rw [branch_cond, branch_annul]

/-- FBfcc words are decoded by their condition. -/
theorem decode_fbfcc (a : Bool) (cond : BitVec 4) (disp22 : BitVec 22) :
    decode (branchWord a cond 6 disp22) = .instr (decodeFbfcc cond a disp22) := by
  rw [branchWord, decode_format2]
  show Decoded.instr (decodeFbfcc _ _ _) = _
  rw [branch_cond, branch_annul]

/-- CBccc words are decoded by their condition. -/
theorem decode_cbccc (a : Bool) (cond : BitVec 4) (disp22 : BitVec 22) :
    decode (branchWord a cond 7 disp22) = .instr (decodeCbccc cond a disp22) := by
  rw [branchWord, decode_format2]
  show Decoded.instr (decodeCbccc _ _ _) = _
  rw [branch_cond, branch_annul]

/-- Ticc words are decoded by their condition. -/
theorem decode_ticc (cond : BitVec 4) (rs1 : RegNum) (operand : TrapOperand) :
    decode (ticcWord cond rs1 operand) = .instr (decodeTicc cond rs1 operand) := by
  rw [ticcWord, decode_operate]
  show Decoded.instr (decodeTicc _ _ _) = _
  rw [ticc_cond, trapOperandOf_bits]

/-- FPop1 words are decoded by their opf. -/
theorem decode_fpop1 (rd rs1 : RegNum) (opf : BitVec 9) (rs2 : RegNum) :
    decode (operateWord rd 0x34 rs1 opf rs2) = decodeFpop1 rd rs1 opf rs2 := by
  rw [operateWord, decode_operate]
  show decodeFpop1 _ _ _ _ = _
  rw [operate_opf, operate_rs2]

/-- FPop2 words are decoded by their opf. -/
theorem decode_fpop2 (rd rs1 : RegNum) (opf : BitVec 9) (rs2 : RegNum) :
    decode (operateWord rd 0x35 rs1 opf rs2) = decodeFpop2 rs1 opf rs2 := by
  rw [operateWord, decode_operate]
  show decodeFpop2 _ _ _ = _
  rw [operate_opf, operate_rs2]

/-- What family RoundTrip says of an instruction: the decoder reads it back from its encoding. -/
def RoundTrip.Statement (i : Instr) : Prop := i.WellFormed → decode (encode i) = .instr i

theorem RoundTrip.nop : RoundTrip.Statement (.nop) := by
  intro _; rfl

theorem RoundTrip.unimp reserved const22 : RoundTrip.Statement (.unimp reserved const22) := by
  intro _; exact decode_format2 _ _ _

theorem RoundTrip.sethi rd imm22 : RoundTrip.Statement (.sethi rd imm22) := by
  intro h
  have h' : (rd == 0 && imm22 == 0) = false := (Bool.not_eq_true' _).mp h
  refine (decode_format2 _ _ _).trans ?_
  show (if rd == 0 && imm22 == 0 then Decoded.instr .nop else .instr (.sethi rd imm22)) = _
  rw [h']; rfl

theorem RoundTrip.ba a disp22 : RoundTrip.Statement (.ba a disp22) := by
  intro _; exact decode_bicc _ _ _

theorem RoundTrip.bn a disp22 : RoundTrip.Statement (.bn a disp22) := by
  intro _; exact decode_bicc _ _ _

theorem RoundTrip.bne a disp22 : RoundTrip.Statement (.bne a disp22) := by
  intro _; exact decode_bicc _ _ _

theorem RoundTrip.be a disp22 : RoundTrip.Statement (.be a disp22) := by
  intro _; exact decode_bicc _ _ _

theorem RoundTrip.bg a disp22 : RoundTrip.Statement (.bg a disp22) := by
  intro _; exact decode_bicc _ _ _

theorem RoundTrip.ble a disp22 : RoundTrip.Statement (.ble a disp22) := by
  intro _; exact decode_bicc _ _ _

theorem RoundTrip.bge a disp22 : RoundTrip.Statement (.bge a disp22) := by
  intro _; exact decode_bicc _ _ _

theorem RoundTrip.bl a disp22 : RoundTrip.Statement (.bl a disp22) := by
  intro _; exact decode_bicc _ _ _

theorem RoundTrip.bgu a disp22 : RoundTrip.Statement (.bgu a disp22) := by
  intro _; exact decode_bicc _ _ _

theorem RoundTrip.bleu a disp22 : RoundTrip.Statement (.bleu a disp22) := by
  intro _; exact decode_bicc _ _ _

theorem RoundTrip.bcc a disp22 : RoundTrip.Statement (.bcc a disp22) := by
  intro _; exact decode_bicc _ _ _

theorem RoundTrip.bcs a disp22 : RoundTrip.Statement (.bcs a disp22) := by
  intro _; exact decode_bicc _ _ _

theorem RoundTrip.bpos a disp22 : RoundTrip.Statement (.bpos a disp22) := by
  intro _; exact decode_bicc _ _ _

theorem RoundTrip.bneg a disp22 : RoundTrip.Statement (.bneg a disp22) := by
  intro _; exact decode_bicc _ _ _

theorem RoundTrip.bvc a disp22 : RoundTrip.Statement (.bvc a disp22) := by
  intro _; exact decode_bicc _ _ _

theorem RoundTrip.bvs a disp22 : RoundTrip.Statement (.bvs a disp22) := by
  intro _; exact decode_bicc _ _ _

theorem RoundTrip.fba a disp22 : RoundTrip.Statement (.fba a disp22) := by
  intro _; exact decode_fbfcc _ _ _

theorem RoundTrip.fbn a disp22 : RoundTrip.Statement (.fbn a disp22) := by
  intro _; exact decode_fbfcc _ _ _

theorem RoundTrip.fbu a disp22 : RoundTrip.Statement (.fbu a disp22) := by
  intro _; exact decode_fbfcc _ _ _

theorem RoundTrip.fbg a disp22 : RoundTrip.Statement (.fbg a disp22) := by
  intro _; exact decode_fbfcc _ _ _

theorem RoundTrip.fbug a disp22 : RoundTrip.Statement (.fbug a disp22) := by
  intro _; exact decode_fbfcc _ _ _

theorem RoundTrip.fbl a disp22 : RoundTrip.Statement (.fbl a disp22) := by
  intro _; exact decode_fbfcc _ _ _

theorem RoundTrip.fbul a disp22 : RoundTrip.Statement (.fbul a disp22) := by
  intro _; exact decode_fbfcc _ _ _

theorem RoundTrip.fblg a disp22 : RoundTrip.Statement (.fblg a disp22) := by
  intro _; exact decode_fbfcc _ _ _

theorem RoundTrip.fbne a disp22 : RoundTrip.Statement (.fbne a disp22) := by
  intro _; exact decode_fbfcc _ _ _

theorem RoundTrip.fbe a disp22 : RoundTrip.Statement (.fbe a disp22) := by
  intro _; exact decode_fbfcc _ _ _

theorem RoundTrip.fbue a disp22 : RoundTrip.Statement (.fbue a disp22) := by
  intro _; exact decode_fbfcc _ _ _

theorem RoundTrip.fbge a disp22 : RoundTrip.Statement (.fbge a disp22) := by
  intro _; exact decode_fbfcc _ _ _

theorem RoundTrip.fbuge a disp22 : RoundTrip.Statement (.fbuge a disp22) := by
  intro _; exact decode_fbfcc _ _ _

theorem RoundTrip.fble a disp22 : RoundTrip.Statement (.fble a disp22) := by
  intro _; exact decode_fbfcc _ _ _

theorem RoundTrip.fbule a disp22 : RoundTrip.Statement (.fbule a disp22) := by
  intro _; exact decode_fbfcc _ _ _

theorem RoundTrip.fbo a disp22 : RoundTrip.Statement (.fbo a disp22) := by
  intro _; exact decode_fbfcc _ _ _

theorem RoundTrip.cba a disp22 : RoundTrip.Statement (.cba a disp22) := by
  intro _; exact decode_cbccc _ _ _

theorem RoundTrip.cbn a disp22 : RoundTrip.Statement (.cbn a disp22) := by
  intro _; exact decode_cbccc _ _ _

theorem RoundTrip.cb3 a disp22 : RoundTrip.Statement (.cb3 a disp22) := by
  intro _; exact decode_cbccc _ _ _

theorem RoundTrip.cb2 a disp22 : RoundTrip.Statement (.cb2 a disp22) := by
  intro _; exact decode_cbccc _ _ _

theorem RoundTrip.cb23 a disp22 : RoundTrip.Statement (.cb23 a disp22) := by
  intro _; exact decode_cbccc _ _ _

theorem RoundTrip.cb1 a disp22 : RoundTrip.Statement (.cb1 a disp22) := by
  intro _; exact decode_cbccc _ _ _

theorem RoundTrip.cb13 a disp22 : RoundTrip.Statement (.cb13 a disp22) := by
  intro _; exact decode_cbccc _ _ _

theorem RoundTrip.cb12 a disp22 : RoundTrip.Statement (.cb12 a disp22) := by
  intro _; exact decode_cbccc _ _ _

theorem RoundTrip.cb123 a disp22 : RoundTrip.Statement (.cb123 a disp22) := by
  intro _; exact decode_cbccc _ _ _

theorem RoundTrip.cb0 a disp22 : RoundTrip.Statement (.cb0 a disp22) := by
  intro _; exact decode_cbccc _ _ _

theorem RoundTrip.cb03 a disp22 : RoundTrip.Statement (.cb03 a disp22) := by
  intro _; exact decode_cbccc _ _ _

theorem RoundTrip.cb02 a disp22 : RoundTrip.Statement (.cb02 a disp22) := by
  intro _; exact decode_cbccc _ _ _

theorem RoundTrip.cb023 a disp22 : RoundTrip.Statement (.cb023 a disp22) := by
  intro _; exact decode_cbccc _ _ _

theorem RoundTrip.cb01 a disp22 : RoundTrip.Statement (.cb01 a disp22) := by
  intro _; exact decode_cbccc _ _ _

theorem RoundTrip.cb013 a disp22 : RoundTrip.Statement (.cb013 a disp22) := by
  intro _; exact decode_cbccc _ _ _

theorem RoundTrip.cb012 a disp22 : RoundTrip.Statement (.cb012 a disp22) := by
  intro _; exact decode_cbccc _ _ _

theorem RoundTrip.call disp30 : RoundTrip.Statement (.call disp30) := by
  intro _
  have h0 : (1#2 ++ disp30).extractLsb' 30 2 = 1#2 := by ext i h; simp; grind
  have h1 : (1#2 ++ disp30).extractLsb' 0 30 = disp30 := by ext i h; simp; grind
  simp only [encode, decode, h0, h1]

theorem RoundTrip.ldsb rd rs1 operand : RoundTrip.Statement (.ldsb rd rs1 operand) := by
  intro _
  refine (decode_memory _ _ _ _).trans ?_
  show Decoded.instr (.ldsb rd rs1 (operand2Of _)) = _
  rw [operand2Of_bits]

theorem RoundTrip.ldsh rd rs1 operand : RoundTrip.Statement (.ldsh rd rs1 operand) := by
  intro _
  refine (decode_memory _ _ _ _).trans ?_
  show Decoded.instr (.ldsh rd rs1 (operand2Of _)) = _
  rw [operand2Of_bits]

theorem RoundTrip.ldub rd rs1 operand : RoundTrip.Statement (.ldub rd rs1 operand) := by
  intro _
  refine (decode_memory _ _ _ _).trans ?_
  show Decoded.instr (.ldub rd rs1 (operand2Of _)) = _
  rw [operand2Of_bits]

theorem RoundTrip.lduh rd rs1 operand : RoundTrip.Statement (.lduh rd rs1 operand) := by
  intro _
  refine (decode_memory _ _ _ _).trans ?_
  show Decoded.instr (.lduh rd rs1 (operand2Of _)) = _
  rw [operand2Of_bits]

theorem RoundTrip.ld rd rs1 operand : RoundTrip.Statement (.ld rd rs1 operand) := by
  intro _
  refine (decode_memory _ _ _ _).trans ?_
  show Decoded.instr (.ld rd rs1 (operand2Of _)) = _
  rw [operand2Of_bits]

theorem RoundTrip.ldd rd rs1 operand : RoundTrip.Statement (.ldd rd rs1 operand) := by
  intro _
  refine (decode_memory _ _ _ _).trans ?_
  show Decoded.instr (.ldd rd rs1 (operand2Of _)) = _
  rw [operand2Of_bits]

theorem RoundTrip.ldsba rd rs1 operand : RoundTrip.Statement (.ldsba rd rs1 operand) := by
  intro _
  refine (decode_memory _ _ _ _).trans ?_
  show Decoded.instr (.ldsba rd rs1 (altOperandOf _)) = _
  rw [altOperandOf_bits]

theorem RoundTrip.ldsha rd rs1 operand : RoundTrip.Statement (.ldsha rd rs1 operand) := by
  intro _
  refine (decode_memory _ _ _ _).trans ?_
  show Decoded.instr (.ldsha rd rs1 (altOperandOf _)) = _
  rw [altOperandOf_bits]

theorem RoundTrip.lduba rd rs1 operand : RoundTrip.Statement (.lduba rd rs1 operand) := by
  intro _
  refine (decode_memory _ _ _ _).trans ?_
  show Decoded.instr (.lduba rd rs1 (altOperandOf _)) = _
  rw [altOperandOf_bits]

theorem RoundTrip.lduha rd rs1 operand : RoundTrip.Statement (.lduha rd rs1 operand) := by
  intro _
  refine (decode_memory _ _ _ _).trans ?_
  show Decoded.instr (.lduha rd rs1 (altOperandOf _)) = _
  rw [altOperandOf_bits]

theorem RoundTrip.lda rd rs1 operand : RoundTrip.Statement (.lda rd rs1 operand) := by
  intro _
  refine (decode_memory _ _ _ _).trans ?_
  show Decoded.instr (.lda rd rs1 (altOperandOf _)) = _
  rw [altOperandOf_bits]

theorem RoundTrip.ldda rd rs1 operand : RoundTrip.Statement (.ldda rd rs1 operand) := by
  intro _
  refine (decode_memory _ _ _ _).trans ?_
  show Decoded.instr (.ldda rd rs1 (altOperandOf _)) = _
  rw [altOperandOf_bits]

theorem RoundTrip.ldf rd rs1 operand : RoundTrip.Statement (.ldf rd rs1 operand) := by
  intro _
  refine (decode_memory _ _ _ _).trans ?_
  show Decoded.instr (.ldf rd rs1 (operand2Of _)) = _
  rw [operand2Of_bits]

theorem RoundTrip.lddf rd rs1 operand : RoundTrip.Statement (.lddf rd rs1 operand) := by
  intro _
  refine (decode_memory _ _ _ _).trans ?_
  show Decoded.instr (.lddf rd rs1 (operand2Of _)) = _
  rw [operand2Of_bits]

theorem RoundTrip.ldfsr rd rs1 operand : RoundTrip.Statement (.ldfsr rd rs1 operand) := by
  intro _
  refine (decode_memory _ _ _ _).trans ?_
  show Decoded.instr (.ldfsr rd rs1 (operand2Of _)) = _
  rw [operand2Of_bits]

theorem RoundTrip.ldc rd rs1 operand : RoundTrip.Statement (.ldc rd rs1 operand) := by
  intro _
  refine (decode_memory _ _ _ _).trans ?_
  show Decoded.instr (.ldc rd rs1 (operand2Of _)) = _
  rw [operand2Of_bits]

theorem RoundTrip.lddc rd rs1 operand : RoundTrip.Statement (.lddc rd rs1 operand) := by
  intro _
  refine (decode_memory _ _ _ _).trans ?_
  show Decoded.instr (.lddc rd rs1 (operand2Of _)) = _
  rw [operand2Of_bits]

theorem RoundTrip.ldcsr rd rs1 operand : RoundTrip.Statement (.ldcsr rd rs1 operand) := by
  intro _
  refine (decode_memory _ _ _ _).trans ?_
  show Decoded.instr (.ldcsr rd rs1 (operand2Of _)) = _
  rw [operand2Of_bits]

theorem RoundTrip.stb rd rs1 operand : RoundTrip.Statement (.stb rd rs1 operand) := by
  intro _
  refine (decode_memory _ _ _ _).trans ?_
  show Decoded.instr (.stb rd rs1 (operand2Of _)) = _
  rw [operand2Of_bits]

theorem RoundTrip.sth rd rs1 operand : RoundTrip.Statement (.sth rd rs1 operand) := by
  intro _
  refine (decode_memory _ _ _ _).trans ?_
  show Decoded.instr (.sth rd rs1 (operand2Of _)) = _
  rw [operand2Of_bits]

theorem RoundTrip.st rd rs1 operand : RoundTrip.Statement (.st rd rs1 operand) := by
  intro _
  refine (decode_memory _ _ _ _).trans ?_
  show Decoded.instr (.st rd rs1 (operand2Of _)) = _
  rw [operand2Of_bits]

theorem RoundTrip.std rd rs1 operand : RoundTrip.Statement (.std rd rs1 operand) := by
  intro _
  refine (decode_memory _ _ _ _).trans ?_
  show Decoded.instr (.std rd rs1 (operand2Of _)) = _
  rw [operand2Of_bits]

theorem RoundTrip.stba rd rs1 operand : RoundTrip.Statement (.stba rd rs1 operand) := by
  intro _
  refine (decode_memory _ _ _ _).trans ?_
  show Decoded.instr (.stba rd rs1 (altOperandOf _)) = _
  rw [altOperandOf_bits]

theorem RoundTrip.stha rd rs1 operand : RoundTrip.Statement (.stha rd rs1 operand) := by
  intro _
  refine (decode_memory _ _ _ _).trans ?_
  show Decoded.instr (.stha rd rs1 (altOperandOf _)) = _
  rw [altOperandOf_bits]

theorem RoundTrip.sta rd rs1 operand : RoundTrip.Statement (.sta rd rs1 operand) := by
  intro _
  refine (decode_memory _ _ _ _).trans ?_
  show Decoded.instr (.sta rd rs1 (altOperandOf _)) = _
  rw [altOperandOf_bits]

theorem RoundTrip.stda rd rs1 operand : RoundTrip.Statement (.stda rd rs1 operand) := by
  intro _
  refine (decode_memory _ _ _ _).trans ?_
  show Decoded.instr (.stda rd rs1 (altOperandOf _)) = _
  rw [altOperandOf_bits]

theorem RoundTrip.stf rd rs1 operand : RoundTrip.Statement (.stf rd rs1 operand) := by
  intro _
  refine (decode_memory _ _ _ _).trans ?_
  show Decoded.instr (.stf rd rs1 (operand2Of _)) = _
  rw [operand2Of_bits]

theorem RoundTrip.stdf rd rs1 operand : RoundTrip.Statement (.stdf rd rs1 operand) := by
  intro _
  refine (decode_memory _ _ _ _).trans ?_
  show Decoded.instr (.stdf rd rs1 (operand2Of _)) = _
  rw [operand2Of_bits]

theorem RoundTrip.stfsr rd rs1 operand : RoundTrip.Statement (.stfsr rd rs1 operand) := by
  intro _
  refine (decode_memory _ _ _ _).trans ?_
  show Decoded.instr (.stfsr rd rs1 (operand2Of _)) = _
  rw [operand2Of_bits]

theorem RoundTrip.stdfq rd rs1 operand : RoundTrip.Statement (.stdfq rd rs1 operand) := by
  intro _
  refine (decode_memory _ _ _ _).trans ?_
  show Decoded.instr (.stdfq rd rs1 (operand2Of _)) = _
  rw [operand2Of_bits]

theorem RoundTrip.stc rd rs1 operand : RoundTrip.Statement (.stc rd rs1 operand) := by
  intro _
  refine (decode_memory _ _ _ _).trans ?_
  show Decoded.instr (.stc rd rs1 (operand2Of _)) = _
  rw [operand2Of_bits]

theorem RoundTrip.stdc rd rs1 operand : RoundTrip.Statement (.stdc rd rs1 operand) := by
  intro _
  refine (decode_memory _ _ _ _).trans ?_
  show Decoded.instr (.stdc rd rs1 (operand2Of _)) = _
  rw [operand2Of_bits]

theorem RoundTrip.stcsr rd rs1 operand : RoundTrip.Statement (.stcsr rd rs1 operand) := by
  intro _
  refine (decode_memory _ _ _ _).trans ?_
  show Decoded.instr (.stcsr rd rs1 (operand2Of _)) = _
  rw [operand2Of_bits]

theorem RoundTrip.stdcq rd rs1 operand : RoundTrip.Statement (.stdcq rd rs1 operand) := by
  intro _
  refine (decode_memory _ _ _ _).trans ?_
  show Decoded.instr (.stdcq rd rs1 (operand2Of _)) = _
  rw [operand2Of_bits]

theorem RoundTrip.ldstub rd rs1 operand : RoundTrip.Statement (.ldstub rd rs1 operand) := by
  intro _
  refine (decode_memory _ _ _ _).trans ?_
  show Decoded.instr (.ldstub rd rs1 (operand2Of _)) = _
  rw [operand2Of_bits]

theorem RoundTrip.ldstuba rd rs1 operand : RoundTrip.Statement (.ldstuba rd rs1 operand) := by
  intro _
  refine (decode_memory _ _ _ _).trans ?_
  show Decoded.instr (.ldstuba rd rs1 (altOperandOf _)) = _
  rw [altOperandOf_bits]

theorem RoundTrip.swap rd rs1 operand : RoundTrip.Statement (.swap rd rs1 operand) := by
  intro _
  refine (decode_memory _ _ _ _).trans ?_
  show Decoded.instr (.swap rd rs1 (operand2Of _)) = _
  rw [operand2Of_bits]

theorem RoundTrip.swapa rd rs1 operand : RoundTrip.Statement (.swapa rd rs1 operand) := by
  intro _
  refine (decode_memory _ _ _ _).trans ?_
  show Decoded.instr (.swapa rd rs1 (altOperandOf _)) = _
  rw [altOperandOf_bits]

theorem RoundTrip.and rd rs1 operand : RoundTrip.Statement (.and rd rs1 operand) := by
  intro _
  refine (decode_operate _ _ _ _).trans ?_
  show Decoded.instr (.and rd rs1 (operand2Of _)) = _
  rw [operand2Of_bits]

theorem RoundTrip.andcc rd rs1 operand : RoundTrip.Statement (.andcc rd rs1 operand) := by
  intro _
  refine (decode_operate _ _ _ _).trans ?_
  show Decoded.instr (.andcc rd rs1 (operand2Of _)) = _
  rw [operand2Of_bits]

theorem RoundTrip.andn rd rs1 operand : RoundTrip.Statement (.andn rd rs1 operand) := by
  intro _
  refine (decode_operate _ _ _ _).trans ?_
  show Decoded.instr (.andn rd rs1 (operand2Of _)) = _
  rw [operand2Of_bits]

theorem RoundTrip.andncc rd rs1 operand : RoundTrip.Statement (.andncc rd rs1 operand) := by
  intro _
  refine (decode_operate _ _ _ _).trans ?_
  show Decoded.instr (.andncc rd rs1 (operand2Of _)) = _
  rw [operand2Of_bits]

theorem RoundTrip.or rd rs1 operand : RoundTrip.Statement (.or rd rs1 operand) := by
  intro _
  refine (decode_operate _ _ _ _).trans ?_
  show Decoded.instr (.or rd rs1 (operand2Of _)) = _
  rw [operand2Of_bits]

theorem RoundTrip.orcc rd rs1 operand : RoundTrip.Statement (.orcc rd rs1 operand) := by
  intro _
  refine (decode_operate _ _ _ _).trans ?_
  show Decoded.instr (.orcc rd rs1 (operand2Of _)) = _
  rw [operand2Of_bits]

theorem RoundTrip.orn rd rs1 operand : RoundTrip.Statement (.orn rd rs1 operand) := by
  intro _
  refine (decode_operate _ _ _ _).trans ?_
  show Decoded.instr (.orn rd rs1 (operand2Of _)) = _
  rw [operand2Of_bits]

theorem RoundTrip.orncc rd rs1 operand : RoundTrip.Statement (.orncc rd rs1 operand) := by
  intro _
  refine (decode_operate _ _ _ _).trans ?_
  show Decoded.instr (.orncc rd rs1 (operand2Of _)) = _
  rw [operand2Of_bits]

theorem RoundTrip.xor rd rs1 operand : RoundTrip.Statement (.xor rd rs1 operand) := by
  intro _
  refine (decode_operate _ _ _ _).trans ?_
  show Decoded.instr (.xor rd rs1 (operand2Of _)) = _
  rw [operand2Of_bits]

theorem RoundTrip.xorcc rd rs1 operand : RoundTrip.Statement (.xorcc rd rs1 operand) := by
  intro _
  refine (decode_operate _ _ _ _).trans ?_
  show Decoded.instr (.xorcc rd rs1 (operand2Of _)) = _
  rw [operand2Of_bits]

theorem RoundTrip.xnor rd rs1 operand : RoundTrip.Statement (.xnor rd rs1 operand) := by
  intro _
  refine (decode_operate _ _ _ _).trans ?_
  show Decoded.instr (.xnor rd rs1 (operand2Of _)) = _
  rw [operand2Of_bits]

theorem RoundTrip.xnorcc rd rs1 operand : RoundTrip.Statement (.xnorcc rd rs1 operand) := by
  intro _
  refine (decode_operate _ _ _ _).trans ?_
  show Decoded.instr (.xnorcc rd rs1 (operand2Of _)) = _
  rw [operand2Of_bits]

theorem RoundTrip.sll rd rs1 count : RoundTrip.Statement (.sll rd rs1 count) := by
  intro _
  refine (decode_operate _ _ _ _).trans ?_
  show Decoded.instr (.sll rd rs1 (shiftCountOf _)) = _
  rw [shiftCountOf_bits]

theorem RoundTrip.srl rd rs1 count : RoundTrip.Statement (.srl rd rs1 count) := by
  intro _
  refine (decode_operate _ _ _ _).trans ?_
  show Decoded.instr (.srl rd rs1 (shiftCountOf _)) = _
  rw [shiftCountOf_bits]

theorem RoundTrip.sra rd rs1 count : RoundTrip.Statement (.sra rd rs1 count) := by
  intro _
  refine (decode_operate _ _ _ _).trans ?_
  show Decoded.instr (.sra rd rs1 (shiftCountOf _)) = _
  rw [shiftCountOf_bits]

theorem RoundTrip.add rd rs1 operand : RoundTrip.Statement (.add rd rs1 operand) := by
  intro _
  refine (decode_operate _ _ _ _).trans ?_
  show Decoded.instr (.add rd rs1 (operand2Of _)) = _
  rw [operand2Of_bits]

theorem RoundTrip.addcc rd rs1 operand : RoundTrip.Statement (.addcc rd rs1 operand) := by
  intro _
  refine (decode_operate _ _ _ _).trans ?_
  show Decoded.instr (.addcc rd rs1 (operand2Of _)) = _
  rw [operand2Of_bits]

theorem RoundTrip.addx rd rs1 operand : RoundTrip.Statement (.addx rd rs1 operand) := by
  intro _
  refine (decode_operate _ _ _ _).trans ?_
  show Decoded.instr (.addx rd rs1 (operand2Of _)) = _
  rw [operand2Of_bits]

theorem RoundTrip.addxcc rd rs1 operand : RoundTrip.Statement (.addxcc rd rs1 operand) := by
  intro _
  refine (decode_operate _ _ _ _).trans ?_
  show Decoded.instr (.addxcc rd rs1 (operand2Of _)) = _
  rw [operand2Of_bits]

theorem RoundTrip.taddcc rd rs1 operand : RoundTrip.Statement (.taddcc rd rs1 operand) := by
  intro _
  refine (decode_operate _ _ _ _).trans ?_
  show Decoded.instr (.taddcc rd rs1 (operand2Of _)) = _
  rw [operand2Of_bits]

theorem RoundTrip.taddcctv rd rs1 operand : RoundTrip.Statement (.taddcctv rd rs1 operand) := by
  intro _
  refine (decode_operate _ _ _ _).trans ?_
  show Decoded.instr (.taddcctv rd rs1 (operand2Of _)) = _
  rw [operand2Of_bits]

theorem RoundTrip.sub rd rs1 operand : RoundTrip.Statement (.sub rd rs1 operand) := by
  intro _
  refine (decode_operate _ _ _ _).trans ?_
  show Decoded.instr (.sub rd rs1 (operand2Of _)) = _
  rw [operand2Of_bits]

theorem RoundTrip.subcc rd rs1 operand : RoundTrip.Statement (.subcc rd rs1 operand) := by
  intro _
  refine (decode_operate _ _ _ _).trans ?_
  show Decoded.instr (.subcc rd rs1 (operand2Of _)) = _
  rw [operand2Of_bits]

theorem RoundTrip.subx rd rs1 operand : RoundTrip.Statement (.subx rd rs1 operand) := by
  intro _
  refine (decode_operate _ _ _ _).trans ?_
  show Decoded.instr (.subx rd rs1 (operand2Of _)) = _
  rw [operand2Of_bits]

theorem RoundTrip.subxcc rd rs1 operand : RoundTrip.Statement (.subxcc rd rs1 operand) := by
  intro _
  refine (decode_operate _ _ _ _).trans ?_
  show Decoded.instr (.subxcc rd rs1 (operand2Of _)) = _
  rw [operand2Of_bits]

theorem RoundTrip.tsubcc rd rs1 operand : RoundTrip.Statement (.tsubcc rd rs1 operand) := by
  intro _
  refine (decode_operate _ _ _ _).trans ?_
  show Decoded.instr (.tsubcc rd rs1 (operand2Of _)) = _
  rw [operand2Of_bits]

theorem RoundTrip.tsubcctv rd rs1 operand : RoundTrip.Statement (.tsubcctv rd rs1 operand) := by
  intro _
  refine (decode_operate _ _ _ _).trans ?_
  show Decoded.instr (.tsubcctv rd rs1 (operand2Of _)) = _
  rw [operand2Of_bits]

theorem RoundTrip.mulscc rd rs1 operand : RoundTrip.Statement (.mulscc rd rs1 operand) := by
  intro _
  refine (decode_operate _ _ _ _).trans ?_
  show Decoded.instr (.mulscc rd rs1 (operand2Of _)) = _
  rw [operand2Of_bits]

theorem RoundTrip.umul rd rs1 operand : RoundTrip.Statement (.umul rd rs1 operand) := by
  intro _
  refine (decode_operate _ _ _ _).trans ?_
  show Decoded.instr (.umul rd rs1 (operand2Of _)) = _
  rw [operand2Of_bits]

theorem RoundTrip.smul rd rs1 operand : RoundTrip.Statement (.smul rd rs1 operand) := by
  intro _
  refine (decode_operate _ _ _ _).trans ?_
  show Decoded.instr (.smul rd rs1 (operand2Of _)) = _
  rw [operand2Of_bits]

theorem RoundTrip.umulcc rd rs1 operand : RoundTrip.Statement (.umulcc rd rs1 operand) := by
  intro _
  refine (decode_operate _ _ _ _).trans ?_
  show Decoded.instr (.umulcc rd rs1 (operand2Of _)) = _
  rw [operand2Of_bits]

theorem RoundTrip.smulcc rd rs1 operand : RoundTrip.Statement (.smulcc rd rs1 operand) := by
  intro _
  refine (decode_operate _ _ _ _).trans ?_
  show Decoded.instr (.smulcc rd rs1 (operand2Of _)) = _
  rw [operand2Of_bits]

theorem RoundTrip.udiv rd rs1 operand : RoundTrip.Statement (.udiv rd rs1 operand) := by
  intro _
  refine (decode_operate _ _ _ _).trans ?_
  show Decoded.instr (.udiv rd rs1 (operand2Of _)) = _
  rw [operand2Of_bits]

theorem RoundTrip.sdiv rd rs1 operand : RoundTrip.Statement (.sdiv rd rs1 operand) := by
  intro _
  refine (decode_operate _ _ _ _).trans ?_
  show Decoded.instr (.sdiv rd rs1 (operand2Of _)) = _
  rw [operand2Of_bits]

theorem RoundTrip.udivcc rd rs1 operand : RoundTrip.Statement (.udivcc rd rs1 operand) := by
  intro _
  refine (decode_operate _ _ _ _).trans ?_
  show Decoded.instr (.udivcc rd rs1 (operand2Of _)) = _
  rw [operand2Of_bits]

theorem RoundTrip.sdivcc rd rs1 operand : RoundTrip.Statement (.sdivcc rd rs1 operand) := by
  intro _
  refine (decode_operate _ _ _ _).trans ?_
  show Decoded.instr (.sdivcc rd rs1 (operand2Of _)) = _
  rw [operand2Of_bits]

theorem RoundTrip.save rd rs1 operand : RoundTrip.Statement (.save rd rs1 operand) := by
  intro _
  refine (decode_operate _ _ _ _).trans ?_
  show Decoded.instr (.save rd rs1 (operand2Of _)) = _
  rw [operand2Of_bits]

theorem RoundTrip.restore rd rs1 operand : RoundTrip.Statement (.restore rd rs1 operand) := by
  intro _
  refine (decode_operate _ _ _ _).trans ?_
  show Decoded.instr (.restore rd rs1 (operand2Of _)) = _
  rw [operand2Of_bits]

theorem RoundTrip.jmpl rd rs1 operand : RoundTrip.Statement (.jmpl rd rs1 operand) := by
  intro _
  refine (decode_operate _ _ _ _).trans ?_
  show Decoded.instr (.jmpl rd rs1 (operand2Of _)) = _
  rw [operand2Of_bits]

theorem RoundTrip.rett rs1 operand : RoundTrip.Statement (.rett rs1 operand) := by
  intro _
  refine (decode_operate _ _ _ _).trans ?_
  show Decoded.instr (.rett rs1 (operand2Of _)) = _
  rw [operand2Of_bits]

theorem RoundTrip.ta rs1 operand : RoundTrip.Statement (.ta rs1 operand) := by
  intro _; exact decode_ticc _ _ _

theorem RoundTrip.tn rs1 operand : RoundTrip.Statement (.tn rs1 operand) := by
  intro _; exact decode_ticc _ _ _

theorem RoundTrip.tne rs1 operand : RoundTrip.Statement (.tne rs1 operand) := by
  intro _; exact decode_ticc _ _ _

theorem RoundTrip.te rs1 operand : RoundTrip.Statement (.te rs1 operand) := by
  intro _; exact decode_ticc _ _ _

theorem RoundTrip.tg rs1 operand : RoundTrip.Statement (.tg rs1 operand) := by
  intro _; exact decode_ticc _ _ _

theorem RoundTrip.tle rs1 operand : RoundTrip.Statement (.tle rs1 operand) := by
  intro _; exact decode_ticc _ _ _

theorem RoundTrip.tge rs1 operand : RoundTrip.Statement (.tge rs1 operand) := by
  intro _; exact decode_ticc _ _ _

theorem RoundTrip.tl rs1 operand : RoundTrip.Statement (.tl rs1 operand) := by
  intro _; exact decode_ticc _ _ _

theorem RoundTrip.tgu rs1 operand : RoundTrip.Statement (.tgu rs1 operand) := by
  intro _; exact decode_ticc _ _ _

theorem RoundTrip.tleu rs1 operand : RoundTrip.Statement (.tleu rs1 operand) := by
  intro _; exact decode_ticc _ _ _

theorem RoundTrip.tcc rs1 operand : RoundTrip.Statement (.tcc rs1 operand) := by
  intro _; exact decode_ticc _ _ _

theorem RoundTrip.tcs rs1 operand : RoundTrip.Statement (.tcs rs1 operand) := by
  intro _; exact decode_ticc _ _ _

theorem RoundTrip.tpos rs1 operand : RoundTrip.Statement (.tpos rs1 operand) := by
  intro _; exact decode_ticc _ _ _

theorem RoundTrip.tneg rs1 operand : RoundTrip.Statement (.tneg rs1 operand) := by
  intro _; exact decode_ticc _ _ _

theorem RoundTrip.tvc rs1 operand : RoundTrip.Statement (.tvc rs1 operand) := by
  intro _; exact decode_ticc _ _ _

theorem RoundTrip.tvs rs1 operand : RoundTrip.Statement (.tvs rs1 operand) := by
  intro _; exact decode_ticc _ _ _

theorem RoundTrip.stbar : RoundTrip.Statement (.stbar) := by
  intro _; rfl

theorem RoundTrip.rdy rd : RoundTrip.Statement (.rdy rd) := by
  intro _; exact decode_operate _ _ _ _

theorem RoundTrip.rdasr rd source : RoundTrip.Statement (.rdasr rd source) := by
  obtain ⟨rs1, low⟩ := source
  intro h
  refine (decode_operate _ _ _ _).trans ?_
  show Decoded.instr (decodeReadState rd rs1 low) = _
  have h' : (rs1 == 0) = false ∧ (rs1 == 15 && rd == 0 && !low.getLsbD 13) = false := by
    have h'' : ((!(rs1 == 0)) && !(rs1 == 15 && rd == 0 && !low.getLsbD 13)) = true := h
    rw [Bool.and_eq_true] at h''
    exact ⟨(Bool.not_eq_true' _).mp h''.1, (Bool.not_eq_true' _).mp h''.2⟩
  simp only [decodeReadState, h'.1, h'.2, Bool.false_eq_true, if_false]

theorem RoundTrip.rdpsr rd : RoundTrip.Statement (.rdpsr rd) := by
  intro _; exact decode_operate _ _ _ _

theorem RoundTrip.rdwim rd : RoundTrip.Statement (.rdwim rd) := by
  intro _; exact decode_operate _ _ _ _

theorem RoundTrip.rdtbr rd : RoundTrip.Statement (.rdtbr rd) := by
  intro _; exact decode_operate _ _ _ _

theorem RoundTrip.wry rs1 operand : RoundTrip.Statement (.wry rs1 operand) := by
  intro _
  refine (decode_operate _ _ _ _).trans ?_
  show Decoded.instr (.wry rs1 (operand2Of _)) = _
  rw [operand2Of_bits]

theorem RoundTrip.wrasr rd rs1 operand : RoundTrip.Statement (.wrasr rd rs1 operand) := by
  intro h
  refine (decode_operate _ _ _ _).trans ?_
  show Decoded.instr (decodeWriteState rd rs1 _) = _
  have h' : (rd == 0) = false := (Bool.not_eq_true' _).mp h
  simp only [decodeWriteState, h', asrOperandOf_bits, Bool.false_eq_true, if_false]

theorem RoundTrip.wrpsr rs1 operand : RoundTrip.Statement (.wrpsr rs1 operand) := by
  intro _
  refine (decode_operate _ _ _ _).trans ?_
  show Decoded.instr (.wrpsr rs1 (operand2Of _)) = _
  rw [operand2Of_bits]

theorem RoundTrip.wrwim rs1 operand : RoundTrip.Statement (.wrwim rs1 operand) := by
  intro _
  refine (decode_operate _ _ _ _).trans ?_
  show Decoded.instr (.wrwim rs1 (operand2Of _)) = _
  rw [operand2Of_bits]

theorem RoundTrip.wrtbr rs1 operand : RoundTrip.Statement (.wrtbr rs1 operand) := by
  intro _
  refine (decode_operate _ _ _ _).trans ?_
  show Decoded.instr (.wrtbr rs1 (operand2Of _)) = _
  rw [operand2Of_bits]

theorem RoundTrip.flush rs1 operand : RoundTrip.Statement (.flush rs1 operand) := by
  intro _
  refine (decode_operate _ _ _ _).trans ?_
  show Decoded.instr (.flush rs1 (operand2Of _)) = _
  rw [operand2Of_bits]

theorem RoundTrip.fitos rd rs2 : RoundTrip.Statement (.fitos rd rs2) := by
  intro _; exact decode_fpop1 _ _ _ _

theorem RoundTrip.fitod rd rs2 : RoundTrip.Statement (.fitod rd rs2) := by
  intro _; exact decode_fpop1 _ _ _ _

theorem RoundTrip.fitoq rd rs2 : RoundTrip.Statement (.fitoq rd rs2) := by
  intro _; exact decode_fpop1 _ _ _ _

theorem RoundTrip.fstoi rd rs2 : RoundTrip.Statement (.fstoi rd rs2) := by
  intro _; exact decode_fpop1 _ _ _ _

theorem RoundTrip.fdtoi rd rs2 : RoundTrip.Statement (.fdtoi rd rs2) := by
  intro _; exact decode_fpop1 _ _ _ _

theorem RoundTrip.fqtoi rd rs2 : RoundTrip.Statement (.fqtoi rd rs2) := by
  intro _; exact decode_fpop1 _ _ _ _

theorem RoundTrip.fstod rd rs2 : RoundTrip.Statement (.fstod rd rs2) := by
  intro _; exact decode_fpop1 _ _ _ _

theorem RoundTrip.fstoq rd rs2 : RoundTrip.Statement (.fstoq rd rs2) := by
  intro _; exact decode_fpop1 _ _ _ _

theorem RoundTrip.fdtos rd rs2 : RoundTrip.Statement (.fdtos rd rs2) := by
  intro _; exact decode_fpop1 _ _ _ _

theorem RoundTrip.fdtoq rd rs2 : RoundTrip.Statement (.fdtoq rd rs2) := by
  intro _; exact decode_fpop1 _ _ _ _

theorem RoundTrip.fqtos rd rs2 : RoundTrip.Statement (.fqtos rd rs2) := by
  intro _; exact decode_fpop1 _ _ _ _

theorem RoundTrip.fqtod rd rs2 : RoundTrip.Statement (.fqtod rd rs2) := by
  intro _; exact decode_fpop1 _ _ _ _

theorem RoundTrip.fmovs rd rs2 : RoundTrip.Statement (.fmovs rd rs2) := by
  intro _; exact decode_fpop1 _ _ _ _

theorem RoundTrip.fnegs rd rs2 : RoundTrip.Statement (.fnegs rd rs2) := by
  intro _; exact decode_fpop1 _ _ _ _

theorem RoundTrip.fabss rd rs2 : RoundTrip.Statement (.fabss rd rs2) := by
  intro _; exact decode_fpop1 _ _ _ _

theorem RoundTrip.fsqrts rd rs2 : RoundTrip.Statement (.fsqrts rd rs2) := by
  intro _; exact decode_fpop1 _ _ _ _

theorem RoundTrip.fsqrtd rd rs2 : RoundTrip.Statement (.fsqrtd rd rs2) := by
  intro _; exact decode_fpop1 _ _ _ _

theorem RoundTrip.fsqrtq rd rs2 : RoundTrip.Statement (.fsqrtq rd rs2) := by
  intro _; exact decode_fpop1 _ _ _ _

theorem RoundTrip.fadds rd rs1 rs2 : RoundTrip.Statement (.fadds rd rs1 rs2) := by
  intro _; exact decode_fpop1 _ _ _ _

theorem RoundTrip.faddd rd rs1 rs2 : RoundTrip.Statement (.faddd rd rs1 rs2) := by
  intro _; exact decode_fpop1 _ _ _ _

theorem RoundTrip.faddq rd rs1 rs2 : RoundTrip.Statement (.faddq rd rs1 rs2) := by
  intro _; exact decode_fpop1 _ _ _ _

theorem RoundTrip.fsubs rd rs1 rs2 : RoundTrip.Statement (.fsubs rd rs1 rs2) := by
  intro _; exact decode_fpop1 _ _ _ _

theorem RoundTrip.fsubd rd rs1 rs2 : RoundTrip.Statement (.fsubd rd rs1 rs2) := by
  intro _; exact decode_fpop1 _ _ _ _

theorem RoundTrip.fsubq rd rs1 rs2 : RoundTrip.Statement (.fsubq rd rs1 rs2) := by
  intro _; exact decode_fpop1 _ _ _ _

theorem RoundTrip.fmuls rd rs1 rs2 : RoundTrip.Statement (.fmuls rd rs1 rs2) := by
  intro _; exact decode_fpop1 _ _ _ _

theorem RoundTrip.fmuld rd rs1 rs2 : RoundTrip.Statement (.fmuld rd rs1 rs2) := by
  intro _; exact decode_fpop1 _ _ _ _

theorem RoundTrip.fmulq rd rs1 rs2 : RoundTrip.Statement (.fmulq rd rs1 rs2) := by
  intro _; exact decode_fpop1 _ _ _ _

theorem RoundTrip.fsmuld rd rs1 rs2 : RoundTrip.Statement (.fsmuld rd rs1 rs2) := by
  intro _; exact decode_fpop1 _ _ _ _

theorem RoundTrip.fdmulq rd rs1 rs2 : RoundTrip.Statement (.fdmulq rd rs1 rs2) := by
  intro _; exact decode_fpop1 _ _ _ _

theorem RoundTrip.fdivs rd rs1 rs2 : RoundTrip.Statement (.fdivs rd rs1 rs2) := by
  intro _; exact decode_fpop1 _ _ _ _

theorem RoundTrip.fdivd rd rs1 rs2 : RoundTrip.Statement (.fdivd rd rs1 rs2) := by
  intro _; exact decode_fpop1 _ _ _ _

theorem RoundTrip.fdivq rd rs1 rs2 : RoundTrip.Statement (.fdivq rd rs1 rs2) := by
  intro _; exact decode_fpop1 _ _ _ _

theorem RoundTrip.fcmps rs1 rs2 : RoundTrip.Statement (.fcmps rs1 rs2) := by
  intro _; exact decode_fpop2 _ _ _ _

theorem RoundTrip.fcmpd rs1 rs2 : RoundTrip.Statement (.fcmpd rs1 rs2) := by
  intro _; exact decode_fpop2 _ _ _ _

theorem RoundTrip.fcmpq rs1 rs2 : RoundTrip.Statement (.fcmpq rs1 rs2) := by
  intro _; exact decode_fpop2 _ _ _ _

theorem RoundTrip.fcmpes rs1 rs2 : RoundTrip.Statement (.fcmpes rs1 rs2) := by
  intro _; exact decode_fpop2 _ _ _ _

theorem RoundTrip.fcmped rs1 rs2 : RoundTrip.Statement (.fcmped rs1 rs2) := by
  intro _; exact decode_fpop2 _ _ _ _

theorem RoundTrip.fcmpeq rs1 rs2 : RoundTrip.Statement (.fcmpeq rs1 rs2) := by
  intro _; exact decode_fpop2 _ _ _ _

theorem RoundTrip.cpop1 rd rs1 opc rs2 : RoundTrip.Statement (.cpop1 rd rs1 opc rs2) := by
  intro _
  refine (decode_operate _ _ _ _).trans ?_
  show Decoded.instr (.cpop1 _ _ _ _) = _
  rw [operate_opf, operate_rs2]

theorem RoundTrip.cpop2 rd rs1 opc rs2 : RoundTrip.Statement (.cpop2 rd rs1 opc rs2) := by
  intro _
  refine (decode_operate _ _ _ _).trans ?_
  show Decoded.instr (.cpop2 _ _ _ _) = _
  rw [operate_opf, operate_rs2]

end Sys2Proof.Laws
end

