-- ==== Sys2Proof/Tests/Slice0.lean ====
section
/-! SUPPORT. Tests: ill-formed terms, one word of every row decoded, steps of single instructions with results taken from
the spec's worked examples and vectors (95_test_vectors) or worked out by hand from its rules, and for each statement with
hypotheses a state that meets them. -/

namespace Sys2Proof.Tests

open Sys2Proof Sys2Proof.Machine

/- One theorem after another: the kernel evaluations below would otherwise each wait in a thread of their own. -/
set_option Elab.async false

/-! ### Ill-formed terms are refused -/

/-- SETHI 0, 0 is the word of NOP (30 R111). -/
theorem test_ill_formed_sethi : ¬ (Instr.sethi 0 0).WellFormed := by decide

/-- RDASR of register 0 is RDY (30 R112). -/
theorem test_ill_formed_rdasr : ¬ (Instr.rdasr 3 ⟨0, 0⟩).WellFormed := by decide

/-- RDASR 15 with rd = 0 is STBAR (30 R112). -/
theorem test_ill_formed_stbar : ¬ (Instr.rdasr 0 ⟨15, 0x1FFF⟩).WellFormed := by decide

/-- WRASR of register 0 is WRY (30 R112). -/
theorem test_ill_formed_wrasr : ¬ (Instr.wrasr 0 1 (.reg 0 2)).WellFormed := by decide

theorem test_well_formed :
    (Instr.sethi 0 1).WellFormed ∧ (Instr.sethi 1 0).WellFormed ∧ (Instr.rdasr 1 ⟨15, 0⟩).WellFormed ∧
      (Instr.wrasr 1 0 (.reg 0 0)).WellFormed := by decide

/-! ### Decoding: words written out from the spec's encodings (30_encoding sections 1 and 3)

The fields, where an instruction has them: rd = 10011, rs1 = 01110, rs2 = 11001, simm13 = 0x15A7, asi = 0x8B, shcnt = 10110,
imm7 = 0x5A, disp22 = 0x2A5A5A with a = 1, opc = 0x153. -/

/-- Words no row of the opcode table assigns (95_test_vectors section 2.1), and the order of 30 R116. -/
theorem test_decode_unassigned :
    decode 0x00400000 = .unassigned ∧ decode 0x00C00000 = .unassigned ∧ decode 0x01400000 = .unassigned ∧
      decode 0x80480000 = .unassigned ∧ decode 0x81600000 = .unassigned ∧ decode 0x81F80000 = .unassigned ∧
      decode 0xC0580000 = .unassigned ∧ decode 0xC1C00000 = .unassigned ∧ decode 0x87A04002 = .unassignedFpop ∧
      decode 0x87A84822 = .unassignedFpop ∧ decode 0x01000001 = .instr (.sethi 0 1) ∧
      decode 0x8143C000 = .instr .stbar ∧ decode 0x8343C000 = .instr (.rdasr 1 ⟨15, 0⟩) ∧
      decode 0x83800001 = .instr (.wrasr 1 0 (.reg 0 1)) := by
  decide

/-- The bits 13:0 of a RDASR and 12:5 of a WRASR, whose interpretation is the implementation's (48 R382, R391), are kept. -/
theorem test_decode_asr_fields :
    decode 0xA74395A7 = .instr (.rdasr 19 ⟨14, 0x15A7⟩) ∧ encode (.rdasr 19 ⟨14, 0x15A7⟩) = 0xA74395A7 ∧
      decode 0xA7839179 = .instr (.wrasr 19 14 (.reg 0x8B 25)) ∧ encode (.wrasr 19 14 (.reg 0x8B 25)) = 0xA7839179 := by
  decide

/-- The host's numbering of a word's bits: the word itself; another width is no instruction's. -/
theorem test_decode_table_word : decodeTableWord 32 0x86004002 = some (.add 3 1 (.reg 2)) := by decide

theorem test_decode_sethi :
    decode 0x01000000 = .instr .nop ∧
    decode 0x2715A5A7 = .instr (.sethi 19 0x15A5A7) := by
  decide

theorem test_decode_state_register_1 :
    decode 0x2A2ABCDE = .instr (.unimp 21 0x2ABCDE) ∧
    decode 0x8143C000 = .instr .stbar ∧
    decode 0xA7400000 = .instr (.rdy 19) ∧
    decode 0xA7438000 = .instr (.rdasr 19 ⟨14, 0⟩) ∧
    decode 0xA7480000 = .instr (.rdpsr 19) ∧
    decode 0xA7500000 = .instr (.rdwim 19) ∧
    decode 0xA7580000 = .instr (.rdtbr 19) ∧
    decode 0x81838019 = .instr (.wry 14 (.reg 25)) ∧
    decode 0x8183B5A7 = .instr (.wry 14 (.imm 0x15A7)) ∧
    decode 0xA7838019 = .instr (.wrasr 19 14 (.reg 0 25)) ∧
    decode 0xA783B5A7 = .instr (.wrasr 19 14 (.imm 0x15A7)) ∧
    decode 0x818B8019 = .instr (.wrpsr 14 (.reg 25)) ∧
    decode 0x818BB5A7 = .instr (.wrpsr 14 (.imm 0x15A7)) ∧
    decode 0x81938019 = .instr (.wrwim 14 (.reg 25)) ∧
    decode 0x8193B5A7 = .instr (.wrwim 14 (.imm 0x15A7)) ∧
    decode 0x819B8019 = .instr (.wrtbr 14 (.reg 25)) := by
  decide

theorem test_decode_state_register_2 :
    decode 0x819BB5A7 = .instr (.wrtbr 14 (.imm 0x15A7)) ∧
    decode 0x81DB8019 = .instr (.flush 14 (.reg 25)) ∧
    decode 0x81DBB5A7 = .instr (.flush 14 (.imm 0x15A7)) := by
  decide

theorem test_decode_bicc :
    decode 0x30AA5A5A = .instr (.ba true 0x2A5A5A) ∧
    decode 0x20AA5A5A = .instr (.bn true 0x2A5A5A) ∧
    decode 0x32AA5A5A = .instr (.bne true 0x2A5A5A) ∧
    decode 0x22AA5A5A = .instr (.be true 0x2A5A5A) ∧
    decode 0x34AA5A5A = .instr (.bg true 0x2A5A5A) ∧
    decode 0x24AA5A5A = .instr (.ble true 0x2A5A5A) ∧
    decode 0x36AA5A5A = .instr (.bge true 0x2A5A5A) ∧
    decode 0x26AA5A5A = .instr (.bl true 0x2A5A5A) ∧
    decode 0x38AA5A5A = .instr (.bgu true 0x2A5A5A) ∧
    decode 0x28AA5A5A = .instr (.bleu true 0x2A5A5A) ∧
    decode 0x3AAA5A5A = .instr (.bcc true 0x2A5A5A) ∧
    decode 0x2AAA5A5A = .instr (.bcs true 0x2A5A5A) ∧
    decode 0x3CAA5A5A = .instr (.bpos true 0x2A5A5A) ∧
    decode 0x2CAA5A5A = .instr (.bneg true 0x2A5A5A) ∧
    decode 0x3EAA5A5A = .instr (.bvc true 0x2A5A5A) ∧
    decode 0x2EAA5A5A = .instr (.bvs true 0x2A5A5A) := by
  decide

theorem test_decode_fbfcc :
    decode 0x31AA5A5A = .instr (.fba true 0x2A5A5A) ∧
    decode 0x21AA5A5A = .instr (.fbn true 0x2A5A5A) ∧
    decode 0x2FAA5A5A = .instr (.fbu true 0x2A5A5A) ∧
    decode 0x2DAA5A5A = .instr (.fbg true 0x2A5A5A) ∧
    decode 0x2BAA5A5A = .instr (.fbug true 0x2A5A5A) ∧
    decode 0x29AA5A5A = .instr (.fbl true 0x2A5A5A) ∧
    decode 0x27AA5A5A = .instr (.fbul true 0x2A5A5A) ∧
    decode 0x25AA5A5A = .instr (.fblg true 0x2A5A5A) ∧
    decode 0x23AA5A5A = .instr (.fbne true 0x2A5A5A) ∧
    decode 0x33AA5A5A = .instr (.fbe true 0x2A5A5A) ∧
    decode 0x35AA5A5A = .instr (.fbue true 0x2A5A5A) ∧
    decode 0x37AA5A5A = .instr (.fbge true 0x2A5A5A) ∧
    decode 0x39AA5A5A = .instr (.fbuge true 0x2A5A5A) ∧
    decode 0x3BAA5A5A = .instr (.fble true 0x2A5A5A) ∧
    decode 0x3DAA5A5A = .instr (.fbule true 0x2A5A5A) ∧
    decode 0x3FAA5A5A = .instr (.fbo true 0x2A5A5A) := by
  decide

theorem test_decode_cbccc :
    decode 0x31EA5A5A = .instr (.cba true 0x2A5A5A) ∧
    decode 0x21EA5A5A = .instr (.cbn true 0x2A5A5A) ∧
    decode 0x2FEA5A5A = .instr (.cb3 true 0x2A5A5A) ∧
    decode 0x2DEA5A5A = .instr (.cb2 true 0x2A5A5A) ∧
    decode 0x2BEA5A5A = .instr (.cb23 true 0x2A5A5A) ∧
    decode 0x29EA5A5A = .instr (.cb1 true 0x2A5A5A) ∧
    decode 0x27EA5A5A = .instr (.cb13 true 0x2A5A5A) ∧
    decode 0x25EA5A5A = .instr (.cb12 true 0x2A5A5A) ∧
    decode 0x23EA5A5A = .instr (.cb123 true 0x2A5A5A) ∧
    decode 0x33EA5A5A = .instr (.cb0 true 0x2A5A5A) ∧
    decode 0x35EA5A5A = .instr (.cb03 true 0x2A5A5A) ∧
    decode 0x37EA5A5A = .instr (.cb02 true 0x2A5A5A) ∧
    decode 0x39EA5A5A = .instr (.cb023 true 0x2A5A5A) ∧
    decode 0x3BEA5A5A = .instr (.cb01 true 0x2A5A5A) ∧
    decode 0x3DEA5A5A = .instr (.cb013 true 0x2A5A5A) ∧
    decode 0x3FEA5A5A = .instr (.cb012 true 0x2A5A5A) := by
  decide

theorem test_decode_control :
    decode 0x6A5A5A5A = .instr (.call 0x2A5A5A5A) ∧
    decode 0xA7C38019 = .instr (.jmpl 19 14 (.reg 25)) ∧
    decode 0xA7C3B5A7 = .instr (.jmpl 19 14 (.imm 0x15A7)) ∧
    decode 0x81CB8019 = .instr (.rett 14 (.reg 25)) ∧
    decode 0x81CBB5A7 = .instr (.rett 14 (.imm 0x15A7)) := by
  decide

theorem test_decode_load_1 :
    decode 0xE64B8019 = .instr (.ldsb 19 14 (.reg 25)) ∧
    decode 0xE64BB5A7 = .instr (.ldsb 19 14 (.imm 0x15A7)) ∧
    decode 0xE6538019 = .instr (.ldsh 19 14 (.reg 25)) ∧
    decode 0xE653B5A7 = .instr (.ldsh 19 14 (.imm 0x15A7)) ∧
    decode 0xE60B8019 = .instr (.ldub 19 14 (.reg 25)) ∧
    decode 0xE60BB5A7 = .instr (.ldub 19 14 (.imm 0x15A7)) ∧
    decode 0xE6138019 = .instr (.lduh 19 14 (.reg 25)) ∧
    decode 0xE613B5A7 = .instr (.lduh 19 14 (.imm 0x15A7)) ∧
    decode 0xE6038019 = .instr (.ld 19 14 (.reg 25)) ∧
    decode 0xE603B5A7 = .instr (.ld 19 14 (.imm 0x15A7)) ∧
    decode 0xE61B8019 = .instr (.ldd 19 14 (.reg 25)) ∧
    decode 0xE61BB5A7 = .instr (.ldd 19 14 (.imm 0x15A7)) ∧
    decode 0xE6CB9179 = .instr (.ldsba 19 14 (.reg 0x8B 25)) ∧
    decode 0xE6CBB5A7 = .instr (.ldsba 19 14 (.imm 0x15A7)) ∧
    decode 0xE6D39179 = .instr (.ldsha 19 14 (.reg 0x8B 25)) ∧
    decode 0xE6D3B5A7 = .instr (.ldsha 19 14 (.imm 0x15A7)) := by
  decide

theorem test_decode_load_2 :
    decode 0xE68B9179 = .instr (.lduba 19 14 (.reg 0x8B 25)) ∧
    decode 0xE68BB5A7 = .instr (.lduba 19 14 (.imm 0x15A7)) ∧
    decode 0xE6939179 = .instr (.lduha 19 14 (.reg 0x8B 25)) ∧
    decode 0xE693B5A7 = .instr (.lduha 19 14 (.imm 0x15A7)) ∧
    decode 0xE6839179 = .instr (.lda 19 14 (.reg 0x8B 25)) ∧
    decode 0xE683B5A7 = .instr (.lda 19 14 (.imm 0x15A7)) ∧
    decode 0xE69B9179 = .instr (.ldda 19 14 (.reg 0x8B 25)) ∧
    decode 0xE69BB5A7 = .instr (.ldda 19 14 (.imm 0x15A7)) ∧
    decode 0xE7038019 = .instr (.ldf 19 14 (.reg 25)) ∧
    decode 0xE703B5A7 = .instr (.ldf 19 14 (.imm 0x15A7)) ∧
    decode 0xE71B8019 = .instr (.lddf 19 14 (.reg 25)) ∧
    decode 0xE71BB5A7 = .instr (.lddf 19 14 (.imm 0x15A7)) ∧
    decode 0xE70B8019 = .instr (.ldfsr 19 14 (.reg 25)) ∧
    decode 0xE70BB5A7 = .instr (.ldfsr 19 14 (.imm 0x15A7)) ∧
    decode 0xE7838019 = .instr (.ldc 19 14 (.reg 25)) ∧
    decode 0xE783B5A7 = .instr (.ldc 19 14 (.imm 0x15A7)) := by
  decide

theorem test_decode_load_3 :
    decode 0xE79B8019 = .instr (.lddc 19 14 (.reg 25)) ∧
    decode 0xE79BB5A7 = .instr (.lddc 19 14 (.imm 0x15A7)) ∧
    decode 0xE78B8019 = .instr (.ldcsr 19 14 (.reg 25)) ∧
    decode 0xE78BB5A7 = .instr (.ldcsr 19 14 (.imm 0x15A7)) := by
  decide

theorem test_decode_store_1 :
    decode 0xE62B8019 = .instr (.stb 19 14 (.reg 25)) ∧
    decode 0xE62BB5A7 = .instr (.stb 19 14 (.imm 0x15A7)) ∧
    decode 0xE6338019 = .instr (.sth 19 14 (.reg 25)) ∧
    decode 0xE633B5A7 = .instr (.sth 19 14 (.imm 0x15A7)) ∧
    decode 0xE6238019 = .instr (.st 19 14 (.reg 25)) ∧
    decode 0xE623B5A7 = .instr (.st 19 14 (.imm 0x15A7)) ∧
    decode 0xE63B8019 = .instr (.std 19 14 (.reg 25)) ∧
    decode 0xE63BB5A7 = .instr (.std 19 14 (.imm 0x15A7)) ∧
    decode 0xE6AB9179 = .instr (.stba 19 14 (.reg 0x8B 25)) ∧
    decode 0xE6ABB5A7 = .instr (.stba 19 14 (.imm 0x15A7)) ∧
    decode 0xE6B39179 = .instr (.stha 19 14 (.reg 0x8B 25)) ∧
    decode 0xE6B3B5A7 = .instr (.stha 19 14 (.imm 0x15A7)) ∧
    decode 0xE6A39179 = .instr (.sta 19 14 (.reg 0x8B 25)) ∧
    decode 0xE6A3B5A7 = .instr (.sta 19 14 (.imm 0x15A7)) ∧
    decode 0xE6BB9179 = .instr (.stda 19 14 (.reg 0x8B 25)) ∧
    decode 0xE6BBB5A7 = .instr (.stda 19 14 (.imm 0x15A7)) := by
  decide

theorem test_decode_store_2 :
    decode 0xE7238019 = .instr (.stf 19 14 (.reg 25)) ∧
    decode 0xE723B5A7 = .instr (.stf 19 14 (.imm 0x15A7)) ∧
    decode 0xE73B8019 = .instr (.stdf 19 14 (.reg 25)) ∧
    decode 0xE73BB5A7 = .instr (.stdf 19 14 (.imm 0x15A7)) ∧
    decode 0xE72B8019 = .instr (.stfsr 19 14 (.reg 25)) ∧
    decode 0xE72BB5A7 = .instr (.stfsr 19 14 (.imm 0x15A7)) ∧
    decode 0xE7338019 = .instr (.stdfq 19 14 (.reg 25)) ∧
    decode 0xE733B5A7 = .instr (.stdfq 19 14 (.imm 0x15A7)) ∧
    decode 0xE7A38019 = .instr (.stc 19 14 (.reg 25)) ∧
    decode 0xE7A3B5A7 = .instr (.stc 19 14 (.imm 0x15A7)) ∧
    decode 0xE7BB8019 = .instr (.stdc 19 14 (.reg 25)) ∧
    decode 0xE7BBB5A7 = .instr (.stdc 19 14 (.imm 0x15A7)) ∧
    decode 0xE7AB8019 = .instr (.stcsr 19 14 (.reg 25)) ∧
    decode 0xE7ABB5A7 = .instr (.stcsr 19 14 (.imm 0x15A7)) ∧
    decode 0xE7B38019 = .instr (.stdcq 19 14 (.reg 25)) ∧
    decode 0xE7B3B5A7 = .instr (.stdcq 19 14 (.imm 0x15A7)) := by
  decide

theorem test_decode_atomic :
    decode 0xE66B8019 = .instr (.ldstub 19 14 (.reg 25)) ∧
    decode 0xE66BB5A7 = .instr (.ldstub 19 14 (.imm 0x15A7)) ∧
    decode 0xE6EB9179 = .instr (.ldstuba 19 14 (.reg 0x8B 25)) ∧
    decode 0xE6EBB5A7 = .instr (.ldstuba 19 14 (.imm 0x15A7)) ∧
    decode 0xE67B8019 = .instr (.swap 19 14 (.reg 25)) ∧
    decode 0xE67BB5A7 = .instr (.swap 19 14 (.imm 0x15A7)) ∧
    decode 0xE6FB9179 = .instr (.swapa 19 14 (.reg 0x8B 25)) ∧
    decode 0xE6FBB5A7 = .instr (.swapa 19 14 (.imm 0x15A7)) := by
  decide

theorem test_decode_logical_1 :
    decode 0xA60B8019 = .instr (.and 19 14 (.reg 25)) ∧
    decode 0xA60BB5A7 = .instr (.and 19 14 (.imm 0x15A7)) ∧
    decode 0xA68B8019 = .instr (.andcc 19 14 (.reg 25)) ∧
    decode 0xA68BB5A7 = .instr (.andcc 19 14 (.imm 0x15A7)) ∧
    decode 0xA62B8019 = .instr (.andn 19 14 (.reg 25)) ∧
    decode 0xA62BB5A7 = .instr (.andn 19 14 (.imm 0x15A7)) ∧
    decode 0xA6AB8019 = .instr (.andncc 19 14 (.reg 25)) ∧
    decode 0xA6ABB5A7 = .instr (.andncc 19 14 (.imm 0x15A7)) ∧
    decode 0xA6138019 = .instr (.or 19 14 (.reg 25)) ∧
    decode 0xA613B5A7 = .instr (.or 19 14 (.imm 0x15A7)) ∧
    decode 0xA6938019 = .instr (.orcc 19 14 (.reg 25)) ∧
    decode 0xA693B5A7 = .instr (.orcc 19 14 (.imm 0x15A7)) ∧
    decode 0xA6338019 = .instr (.orn 19 14 (.reg 25)) ∧
    decode 0xA633B5A7 = .instr (.orn 19 14 (.imm 0x15A7)) ∧
    decode 0xA6B38019 = .instr (.orncc 19 14 (.reg 25)) ∧
    decode 0xA6B3B5A7 = .instr (.orncc 19 14 (.imm 0x15A7)) := by
  decide

theorem test_decode_logical_2 :
    decode 0xA61B8019 = .instr (.xor 19 14 (.reg 25)) ∧
    decode 0xA61BB5A7 = .instr (.xor 19 14 (.imm 0x15A7)) ∧
    decode 0xA69B8019 = .instr (.xorcc 19 14 (.reg 25)) ∧
    decode 0xA69BB5A7 = .instr (.xorcc 19 14 (.imm 0x15A7)) ∧
    decode 0xA63B8019 = .instr (.xnor 19 14 (.reg 25)) ∧
    decode 0xA63BB5A7 = .instr (.xnor 19 14 (.imm 0x15A7)) ∧
    decode 0xA6BB8019 = .instr (.xnorcc 19 14 (.reg 25)) ∧
    decode 0xA6BBB5A7 = .instr (.xnorcc 19 14 (.imm 0x15A7)) := by
  decide

theorem test_decode_shift :
    decode 0xA72B8019 = .instr (.sll 19 14 (.reg 25)) ∧
    decode 0xA72BA016 = .instr (.sll 19 14 (.imm 22)) ∧
    decode 0xA7338019 = .instr (.srl 19 14 (.reg 25)) ∧
    decode 0xA733A016 = .instr (.srl 19 14 (.imm 22)) ∧
    decode 0xA73B8019 = .instr (.sra 19 14 (.reg 25)) ∧
    decode 0xA73BA016 = .instr (.sra 19 14 (.imm 22)) := by
  decide

theorem test_decode_add_sub_1 :
    decode 0xA6038019 = .instr (.add 19 14 (.reg 25)) ∧
    decode 0xA603B5A7 = .instr (.add 19 14 (.imm 0x15A7)) ∧
    decode 0xA6838019 = .instr (.addcc 19 14 (.reg 25)) ∧
    decode 0xA683B5A7 = .instr (.addcc 19 14 (.imm 0x15A7)) ∧
    decode 0xA6438019 = .instr (.addx 19 14 (.reg 25)) ∧
    decode 0xA643B5A7 = .instr (.addx 19 14 (.imm 0x15A7)) ∧
    decode 0xA6C38019 = .instr (.addxcc 19 14 (.reg 25)) ∧
    decode 0xA6C3B5A7 = .instr (.addxcc 19 14 (.imm 0x15A7)) ∧
    decode 0xA7038019 = .instr (.taddcc 19 14 (.reg 25)) ∧
    decode 0xA703B5A7 = .instr (.taddcc 19 14 (.imm 0x15A7)) ∧
    decode 0xA7138019 = .instr (.taddcctv 19 14 (.reg 25)) ∧
    decode 0xA713B5A7 = .instr (.taddcctv 19 14 (.imm 0x15A7)) ∧
    decode 0xA6238019 = .instr (.sub 19 14 (.reg 25)) ∧
    decode 0xA623B5A7 = .instr (.sub 19 14 (.imm 0x15A7)) ∧
    decode 0xA6A38019 = .instr (.subcc 19 14 (.reg 25)) ∧
    decode 0xA6A3B5A7 = .instr (.subcc 19 14 (.imm 0x15A7)) := by
  decide

theorem test_decode_add_sub_2 :
    decode 0xA6638019 = .instr (.subx 19 14 (.reg 25)) ∧
    decode 0xA663B5A7 = .instr (.subx 19 14 (.imm 0x15A7)) ∧
    decode 0xA6E38019 = .instr (.subxcc 19 14 (.reg 25)) ∧
    decode 0xA6E3B5A7 = .instr (.subxcc 19 14 (.imm 0x15A7)) ∧
    decode 0xA70B8019 = .instr (.tsubcc 19 14 (.reg 25)) ∧
    decode 0xA70BB5A7 = .instr (.tsubcc 19 14 (.imm 0x15A7)) ∧
    decode 0xA71B8019 = .instr (.tsubcctv 19 14 (.reg 25)) ∧
    decode 0xA71BB5A7 = .instr (.tsubcctv 19 14 (.imm 0x15A7)) := by
  decide

theorem test_decode_mul_div_1 :
    decode 0xA7238019 = .instr (.mulscc 19 14 (.reg 25)) ∧
    decode 0xA723B5A7 = .instr (.mulscc 19 14 (.imm 0x15A7)) ∧
    decode 0xA6538019 = .instr (.umul 19 14 (.reg 25)) ∧
    decode 0xA653B5A7 = .instr (.umul 19 14 (.imm 0x15A7)) ∧
    decode 0xA65B8019 = .instr (.smul 19 14 (.reg 25)) ∧
    decode 0xA65BB5A7 = .instr (.smul 19 14 (.imm 0x15A7)) ∧
    decode 0xA6D38019 = .instr (.umulcc 19 14 (.reg 25)) ∧
    decode 0xA6D3B5A7 = .instr (.umulcc 19 14 (.imm 0x15A7)) ∧
    decode 0xA6DB8019 = .instr (.smulcc 19 14 (.reg 25)) ∧
    decode 0xA6DBB5A7 = .instr (.smulcc 19 14 (.imm 0x15A7)) ∧
    decode 0xA6738019 = .instr (.udiv 19 14 (.reg 25)) ∧
    decode 0xA673B5A7 = .instr (.udiv 19 14 (.imm 0x15A7)) ∧
    decode 0xA67B8019 = .instr (.sdiv 19 14 (.reg 25)) ∧
    decode 0xA67BB5A7 = .instr (.sdiv 19 14 (.imm 0x15A7)) ∧
    decode 0xA6F38019 = .instr (.udivcc 19 14 (.reg 25)) ∧
    decode 0xA6F3B5A7 = .instr (.udivcc 19 14 (.imm 0x15A7)) := by
  decide

theorem test_decode_mul_div_2 :
    decode 0xA6FB8019 = .instr (.sdivcc 19 14 (.reg 25)) ∧
    decode 0xA6FBB5A7 = .instr (.sdivcc 19 14 (.imm 0x15A7)) := by
  decide

theorem test_decode_window :
    decode 0xA7E38019 = .instr (.save 19 14 (.reg 25)) ∧
    decode 0xA7E3B5A7 = .instr (.save 19 14 (.imm 0x15A7)) ∧
    decode 0xA7EB8019 = .instr (.restore 19 14 (.reg 25)) ∧
    decode 0xA7EBB5A7 = .instr (.restore 19 14 (.imm 0x15A7)) := by
  decide

theorem test_decode_ticc_1 :
    decode 0x91D38019 = .instr (.ta 14 (.reg 25)) ∧
    decode 0x91D3A05A = .instr (.ta 14 (.imm 0x5A)) ∧
    decode 0x81D38019 = .instr (.tn 14 (.reg 25)) ∧
    decode 0x81D3A05A = .instr (.tn 14 (.imm 0x5A)) ∧
    decode 0x93D38019 = .instr (.tne 14 (.reg 25)) ∧
    decode 0x93D3A05A = .instr (.tne 14 (.imm 0x5A)) ∧
    decode 0x83D38019 = .instr (.te 14 (.reg 25)) ∧
    decode 0x83D3A05A = .instr (.te 14 (.imm 0x5A)) ∧
    decode 0x95D38019 = .instr (.tg 14 (.reg 25)) ∧
    decode 0x95D3A05A = .instr (.tg 14 (.imm 0x5A)) ∧
    decode 0x85D38019 = .instr (.tle 14 (.reg 25)) ∧
    decode 0x85D3A05A = .instr (.tle 14 (.imm 0x5A)) ∧
    decode 0x97D38019 = .instr (.tge 14 (.reg 25)) ∧
    decode 0x97D3A05A = .instr (.tge 14 (.imm 0x5A)) ∧
    decode 0x87D38019 = .instr (.tl 14 (.reg 25)) ∧
    decode 0x87D3A05A = .instr (.tl 14 (.imm 0x5A)) := by
  decide

theorem test_decode_ticc_2 :
    decode 0x99D38019 = .instr (.tgu 14 (.reg 25)) ∧
    decode 0x99D3A05A = .instr (.tgu 14 (.imm 0x5A)) ∧
    decode 0x89D38019 = .instr (.tleu 14 (.reg 25)) ∧
    decode 0x89D3A05A = .instr (.tleu 14 (.imm 0x5A)) ∧
    decode 0x9BD38019 = .instr (.tcc 14 (.reg 25)) ∧
    decode 0x9BD3A05A = .instr (.tcc 14 (.imm 0x5A)) ∧
    decode 0x8BD38019 = .instr (.tcs 14 (.reg 25)) ∧
    decode 0x8BD3A05A = .instr (.tcs 14 (.imm 0x5A)) ∧
    decode 0x9DD38019 = .instr (.tpos 14 (.reg 25)) ∧
    decode 0x9DD3A05A = .instr (.tpos 14 (.imm 0x5A)) ∧
    decode 0x8DD38019 = .instr (.tneg 14 (.reg 25)) ∧
    decode 0x8DD3A05A = .instr (.tneg 14 (.imm 0x5A)) ∧
    decode 0x9FD38019 = .instr (.tvc 14 (.reg 25)) ∧
    decode 0x9FD3A05A = .instr (.tvc 14 (.imm 0x5A)) ∧
    decode 0x8FD38019 = .instr (.tvs 14 (.reg 25)) ∧
    decode 0x8FD3A05A = .instr (.tvs 14 (.imm 0x5A)) := by
  decide

theorem test_decode_fpop_1 :
    decode 0xA7A01899 = .instr (.fitos 19 25) ∧
    decode 0xA7A01919 = .instr (.fitod 19 25) ∧
    decode 0xA7A01999 = .instr (.fitoq 19 25) ∧
    decode 0xA7A01A39 = .instr (.fstoi 19 25) ∧
    decode 0xA7A01A59 = .instr (.fdtoi 19 25) ∧
    decode 0xA7A01A79 = .instr (.fqtoi 19 25) ∧
    decode 0xA7A01939 = .instr (.fstod 19 25) ∧
    decode 0xA7A019B9 = .instr (.fstoq 19 25) ∧
    decode 0xA7A018D9 = .instr (.fdtos 19 25) ∧
    decode 0xA7A019D9 = .instr (.fdtoq 19 25) ∧
    decode 0xA7A018F9 = .instr (.fqtos 19 25) ∧
    decode 0xA7A01979 = .instr (.fqtod 19 25) ∧
    decode 0xA7A00039 = .instr (.fmovs 19 25) ∧
    decode 0xA7A000B9 = .instr (.fnegs 19 25) ∧
    decode 0xA7A00139 = .instr (.fabss 19 25) ∧
    decode 0xA7A00539 = .instr (.fsqrts 19 25) := by
  decide

theorem test_decode_fpop_2 :
    decode 0xA7A00559 = .instr (.fsqrtd 19 25) ∧
    decode 0xA7A00579 = .instr (.fsqrtq 19 25) ∧
    decode 0xA7A38839 = .instr (.fadds 19 14 25) ∧
    decode 0xA7A38859 = .instr (.faddd 19 14 25) ∧
    decode 0xA7A38879 = .instr (.faddq 19 14 25) ∧
    decode 0xA7A388B9 = .instr (.fsubs 19 14 25) ∧
    decode 0xA7A388D9 = .instr (.fsubd 19 14 25) ∧
    decode 0xA7A388F9 = .instr (.fsubq 19 14 25) ∧
    decode 0xA7A38939 = .instr (.fmuls 19 14 25) ∧
    decode 0xA7A38959 = .instr (.fmuld 19 14 25) ∧
    decode 0xA7A38979 = .instr (.fmulq 19 14 25) ∧
    decode 0xA7A38D39 = .instr (.fsmuld 19 14 25) ∧
    decode 0xA7A38DD9 = .instr (.fdmulq 19 14 25) ∧
    decode 0xA7A389B9 = .instr (.fdivs 19 14 25) ∧
    decode 0xA7A389D9 = .instr (.fdivd 19 14 25) ∧
    decode 0xA7A389F9 = .instr (.fdivq 19 14 25) := by
  decide

theorem test_decode_fcmp :
    decode 0x81AB8A39 = .instr (.fcmps 14 25) ∧
    decode 0x81AB8A59 = .instr (.fcmpd 14 25) ∧
    decode 0x81AB8A79 = .instr (.fcmpq 14 25) ∧
    decode 0x81AB8AB9 = .instr (.fcmpes 14 25) ∧
    decode 0x81AB8AD9 = .instr (.fcmped 14 25) ∧
    decode 0x81AB8AF9 = .instr (.fcmpeq 14 25) := by
  decide

theorem test_decode_cpop :
    decode 0xA7B3AA79 = .instr (.cpop1 19 14 0x153 25) ∧
    decode 0xA7BBAA79 = .instr (.cpop2 19 14 0x153 25) := by
  decide

/-! ### One step of one instruction, on a small state -/

/-- Supervisor mode, traps enabled, PC at 0x1000, every register zero. -/
def base : State :=
  { State.reset with pc := 0x1000, npc := 0x1004, psr := { State.reset.psr with et := true } }

/-- The word's step answers a next state of which `p` holds. -/
def runs (w : Word) (s : State) (p : State → Bool) : Bool :=
  match step (s.withFetchWord 32 w.toNat) with
  | .next t => p t
  | .fault _ => false
  | .refused _ => false

/-- As `runs`, and the instruction advances. -/
def gives (w : Word) (s : State) (p : State → Bool) : Bool := runs w s (fun t => p t && t.pc == s.npc && t.npc == s.npc + 4)

def r (n : RegNum) (v : Word) (s : State) : State := s.writeR n v
def rw (w : BitVec 5) (n : RegNum) (v : Word) (s : State) : State := s.writeRW w n v
def f (n : RegNum) (v : Word) (s : State) : State := s.writeF n v
def fd (n : RegNum) (v : Dword) (s : State) : State := s.writeFd n v
def fq (n : RegNum) (v : Quad) (s : State) : State := s.writeFq n v
def mem1 (k : Nat) (v : Byte) (s : State) : State := { s with mem := s.mem.write1 k v }
def mem4 (k : Nat) (v : Word) (s : State) : State := { s with mem := s.mem.write4 k v }
def mem8 (k : Nat) (v : Dword) (s : State) : State := { s with mem := s.mem.write8 k v }
def icc (v : BitVec 4) (s : State) : State :=
  { s with psr := { s.psr with icc := ⟨v.getLsbD 3, v.getLsbD 2, v.getLsbD 1, v.getLsbD 0⟩ } }
def iccOf (s : State) : BitVec 4 :=
  BitVec.ofBool s.psr.icc.n ++ BitVec.ofBool s.psr.icc.z ++ BitVec.ofBool s.psr.icc.v ++ BitVec.ofBool s.psr.icc.c
def sup (v : Nat) (s : State) : State := { s with psr := { s.psr with s := v != 0 } }
def et (v : Nat) (s : State) : State := { s with psr := { s.psr with et := v != 0 } }
def ps (v : Nat) (s : State) : State := { s with psr := { s.psr with ps := v != 0 } }
def ef (v : Nat) (s : State) : State := { s with psr := { s.psr with ef := v != 0 } }
def cwp (v : BitVec 5) (s : State) : State := { s with psr := { s.psr with cwp := v } }
def pil (v : BitVec 4) (s : State) : State := { s with psr := { s.psr with pil := v } }
def wim (v : Word) (s : State) : State := { s with wim := v }
def tba (v : BitVec 20) (s : State) : State := { s with tbr := { s.tbr with tba := v } }
def yreg (v : Word) (s : State) : State := { s with y := v }
def pc (v : Word) (s : State) : State := { s with pc := v }
def npc (v : Word) (s : State) : State := { s with npc := v }
def rnd (v : BitVec 2) (s : State) : State := { s with fsr := { s.fsr with rd := v } }
def tem (v : BitVec 5) (s : State) : State := { s with fsr := { s.fsr with tem := v } }
def cexc (v : BitVec 5) (s : State) : State := { s with fsr := { s.fsr with cexc := v } }
def aexc (v : BitVec 5) (s : State) : State := { s with fsr := { s.fsr with aexc := v } }
def fcc (v : BitVec 2) (s : State) : State := { s with fsr := { s.fsr with fcc := v } }

theorem test_exec_load_1 :
    gives 0xC6484000 (base |> r 1 0x2000 |> mem8 0x2000 0x8091A2B3C4D5E6F7) (fun t => t.readR 3 == 0xFFFFFF80) ∧
    gives 0xC6486007 (base |> r 1 0x2000 |> mem8 0x2000 0x8091A2B3C4D5E6F7) (fun t => t.readR 3 == 0xFFFFFFF7) ∧
    gives 0xC6086003 (base |> r 1 0x2000 |> mem8 0x2000 0x8091A2B3C4D5E6F7) (fun t => t.readR 3 == 0xB3) ∧
    gives 0xC6506002 (base |> r 1 0x2000 |> mem8 0x2000 0x8091A2B3C4D5E6F7) (fun t => t.readR 3 == 0xFFFFA2B3) ∧
    gives 0xC6106006 (base |> r 1 0x2000 |> mem8 0x2000 0x8091A2B3C4D5E6F7) (fun t => t.readR 3 == 0xE6F7) ∧
    gives 0xD2006004 (base |> r 1 0x2000 |> mem8 0x2000 0x8091A2B3C4D5E6F7) (fun t => t.readR 9 == 0xC4D5E6F7) ∧
    gives 0xD2004002 (base |> r 1 0x2008 |> mem8 0x2000 0x8091A2B3C4D5E6F7 |> r 2 0xFFFFFFFC)
        (fun t => t.readR 9 == 0xC4D5E6F7) ∧
    gives 0xC4184000 (base |> r 1 0x2000 |> mem8 0x2000 0x8091A2B3C4D5E6F7)
        (fun t => t.readR 2 == 0x8091A2B3 && t.readR 3 == 0xC4D5E6F7) := by
  decide +kernel

theorem test_exec_load_2 :
    gives 0xC0184000 (base |> r 1 0x2000 |> mem8 0x2000 0x8091A2B3C4D5E6F7)
        (fun t => t.readR 0 == 0x0 && t.readR 1 == 0xC4D5E6F7) ∧
    gives 0xC6804160 (base |> r 1 0x2000 |> mem8 0x2000 0x8091A2B3C4D5E6F7)
        (fun t => t.readR 3 == 0x8091A2B3 && t.psr.s) ∧
    gives 0xC6C84142 (base |> r 1 0x2000 |> mem8 0x2000 0x8091A2B3C4D5E6F7 |> r 2 0x1)
        (fun t => t.readR 3 == 0xFFFFFF91) ∧
    gives 0xC4984160 (base |> r 1 0x2000 |> mem8 0x2000 0x8091A2B3C4D5E6F7)
        (fun t => t.readR 2 == 0x8091A2B3 && t.readR 3 == 0xC4D5E6F7) ∧
    runs 0xC3006004 (base |> r 1 0x2000 |> mem8 0x2000 0x8091A2B3C4D5E6F7 |> ef 0x0)
        (fun t => t.tbr.tt == 0x4 && t.pc == 0x40 && t.readR 17 == 0x1000 && t.readR 18 == 0x1004 && t.psr.ps && !t.psr.ef) ∧
    runs 0xC1084000 (base |> r 1 0x2000 |> mem8 0x2000 0x8091A2B3C4D5E6F7 |> ef 0x0)
        (fun t => t.tbr.tt == 0x4 && t.pc == 0x40 && t.readR 17 == 0x1000 && t.readR 18 == 0x1004 && t.psr.ps) ∧
    runs 0xC3806004 (base |> r 1 0x2000 |> mem8 0x2000 0x8091A2B3C4D5E6F7)
        (fun t => t.tbr.tt == 0x24 && t.pc == 0x240 && t.readR 17 == 0x1000 && t.readR 18 == 0x1004 && t.psr.ps) ∧
    runs 0xC5986008 (base |> r 1 0x2000 |> mem8 0x2000 0x8091A2B3C4D5E6F7)
        (fun t => t.tbr.tt == 0x24 && t.pc == 0x240 && t.readR 17 == 0x1000 && t.readR 18 == 0x1004 && t.psr.ps) := by
  decide +kernel

theorem test_exec_load_3 :
    runs 0xC1884000 (base |> r 1 0x2000 |> mem8 0x2000 0x8091A2B3C4D5E6F7)
        (fun t => t.tbr.tt == 0x24 && t.pc == 0x240 && t.readR 17 == 0x1000 && t.readR 18 == 0x1004 && t.psr.ps) ∧
    gives 0xC3006004 (base |> r 1 0x2000 |> mem8 0x2000 0x8091A2B3C4D5E6F7 |> ef 0x1)
        (fun t => t.readF 1 == 0xC4D5E6F7) ∧
    gives 0xC5184000 (base |> r 1 0x2000 |> mem8 0x2000 0x8091A2B3C4D5E6F7 |> ef 0x1)
        (fun t => t.readF 2 == 0x8091A2B3 && t.readF 3 == 0xC4D5E6F7) := by
  decide +kernel

theorem test_exec_store_1 :
    gives 0xC6286001 (base |> r 1 0x2000 |> r 2 0x11223344 |> r 3 0x12345678 |> mem8 0x2000 0x8091A2B3C4D5E6F7)
        (fun t => t.mem.read8 0x2000 == some 0x8078A2B3C4D5E6F7) ∧
    gives 0xC6306006 (base |> r 1 0x2000 |> r 2 0x11223344 |> r 3 0x12345678 |> mem8 0x2000 0x8091A2B3C4D5E6F7)
        (fun t => t.mem.read8 0x2000 == some 0x8091A2B3C4D55678) ∧
    gives 0xC6206004 (base |> r 1 0x2000 |> r 2 0x11223344 |> r 3 0x12345678 |> mem8 0x2000 0x8091A2B3C4D5E6F7)
        (fun t => t.mem.read8 0x2000 == some 0x8091A2B312345678) ∧
    gives 0xC0204000 (base |> r 1 0x2000 |> r 2 0x11223344 |> r 3 0x12345678 |> mem8 0x2000 0x8091A2B3C4D5E6F7)
        (fun t => t.mem.read8 0x2000 == some 0xC4D5E6F7) ∧
    gives 0xC4384000 (base |> r 1 0x2000 |> r 2 0x11223344 |> r 3 0x12345678 |> mem8 0x2000 0x8091A2B3C4D5E6F7)
        (fun t => t.mem.read8 0x2000 == some 0x1122334412345678) ∧
    gives 0xC0384000 (base |> r 1 0x2000 |> r 2 0x11223344 |> r 3 0x12345678 |> mem8 0x2000 0x8091A2B3C4D5E6F7)
        (fun t => t.mem.read8 0x2000 == some 0x2000) ∧
    gives 0xC6A04160 (base |> r 1 0x2000 |> r 2 0x11223344 |> r 3 0x12345678 |> mem8 0x2000 0x8091A2B3C4D5E6F7)
        (fun t => t.mem.read8 0x2000 == some 0x12345678C4D5E6F7) ∧
    runs 0xC6A86000 (base |> r 1 0x2000 |> r 2 0x11223344 |> r 3 0x12345678 |> mem8 0x2000 0x8091A2B3C4D5E6F7)
        (fun t => t.tbr.tt == 0x2 && t.pc == 0x20 && t.readR 17 == 0x1000 && t.readR 18 == 0x1004 && t.psr.ps && t.mem.read8 0x2000 == some 0x8091A2B3C4D5E6F7) := by
  decide +kernel

theorem test_exec_store_2 :
    gives 0xC4B84160 (base |> r 1 0x2000 |> r 2 0x11223344 |> r 3 0x12345678 |> mem8 0x2000 0x8091A2B3C4D5E6F7)
        (fun t => t.mem.read8 0x2000 == some 0x1122334412345678) ∧
    runs 0xC3204000 (base |> r 1 0x2000 |> r 2 0x11223344 |> r 3 0x12345678 |> mem8 0x2000 0x8091A2B3C4D5E6F7 |> ef 0x0)
        (fun t => t.tbr.tt == 0x4 && t.pc == 0x40 && t.readR 17 == 0x1000 && t.readR 18 == 0x1004 && t.psr.ps) ∧
    runs 0xC1304000 (base |> r 1 0x2000 |> r 2 0x11223344 |> r 3 0x12345678 |> mem8 0x2000 0x8091A2B3C4D5E6F7 |> ef 0x0)
        (fun t => t.tbr.tt == 0x4 && t.pc == 0x40 && t.readR 17 == 0x1000 && t.readR 18 == 0x1004 && t.psr.ps) ∧
    runs 0xC3A04000 (base |> r 1 0x2000 |> r 2 0x11223344 |> r 3 0x12345678 |> mem8 0x2000 0x8091A2B3C4D5E6F7)
        (fun t => t.tbr.tt == 0x24 && t.pc == 0x240 && t.readR 17 == 0x1000 && t.readR 18 == 0x1004 && t.psr.ps) ∧
    runs 0xC1B04000 (base |> r 1 0x2000 |> r 2 0x11223344 |> r 3 0x12345678 |> mem8 0x2000 0x8091A2B3C4D5E6F7)
        (fun t => t.tbr.tt == 0x24 && t.pc == 0x240 && t.readR 17 == 0x1000 && t.readR 18 == 0x1004 && t.psr.ps) ∧
    gives 0xC3204000 (base |> r 1 0x2000 |> r 2 0x11223344 |> r 3 0x12345678 |> mem8 0x2000 0x8091A2B3C4D5E6F7 |> ef 0x1 |> f 1 0x3F800000)
        (fun t => t.mem.read4 0x2000 == some 0x3F800000) ∧
    gives 0xC5384000 (base |> r 1 0x2000 |> r 2 0x11223344 |> r 3 0x12345678 |> mem8 0x2000 0x8091A2B3C4D5E6F7 |> ef 0x1 |> f 2 0x3FF00000 |> f 3 0x1)
        (fun t => t.mem.read8 0x2000 == some 0x3FF0000000000001) ∧
    gives 0xC1284000 (base |> r 1 0x2000 |> r 2 0x11223344 |> r 3 0x12345678 |> mem8 0x2000 0x8091A2B3C4D5E6F7 |> ef 0x1 |> tem 0x1F |> fcc 0x1 |> aexc 0x1 |> cexc 0x1)
        (fun t => t.mem.read4 0x2000 == some 0xF800421) := by
  decide +kernel

theorem test_exec_atomic :
    gives 0xC6686002 (base |> r 1 0x2000 |> r 3 0x12345678 |> mem8 0x2000 0x8091A2B3C4D5E6F7)
        (fun t => t.readR 3 == 0xA2 && t.mem.read8 0x2000 == some 0x8091FFB3C4D5E6F7) ∧
    gives 0xC6686008 (base |> r 1 0x2000 |> r 3 0x12345678 |> mem8 0x2000 0x8091A2B3C4D5E6F7 |> mem1 0x2008 0xFF)
        (fun t => t.readR 3 == 0xFF && t.mem.read1 0x2008 == some 0xFF) ∧
    gives 0xC6786004 (base |> r 1 0x2000 |> r 3 0x12345678 |> mem8 0x2000 0x8091A2B3C4D5E6F7)
        (fun t => t.readR 3 == 0xC4D5E6F7 && t.mem.read8 0x2000 == some 0x8091A2B312345678) ∧
    gives 0xC0784000 (base |> r 1 0x2000 |> r 3 0x12345678 |> mem8 0x2000 0x8091A2B3C4D5E6F7)
        (fun t => t.readR 0 == 0x0 && t.mem.read8 0x2000 == some 0xC4D5E6F7) ∧
    gives 0xC6E84160 (base |> r 1 0x2000 |> r 3 0x12345678 |> mem8 0x2000 0x8091A2B3C4D5E6F7)
        (fun t => t.readR 3 == 0x80 && t.mem.read8 0x2000 == some 0xFF91A2B3C4D5E6F7) ∧
    gives 0xC6F84160 (base |> r 1 0x2000 |> r 3 0x12345678 |> mem8 0x2000 0x8091A2B3C4D5E6F7)
        (fun t => t.readR 3 == 0x8091A2B3 && t.mem.read8 0x2000 == some 0x12345678C4D5E6F7) := by
  decide +kernel

theorem test_exec_logical_shift_1 :
    gives 0x03048D15 (base) (fun t => t.readR 1 == 0x12345400) ∧
    gives 0x033FFFFF (base |> icc 0xA) (fun t => t.readR 1 == 0xFFFFFC00 && iccOf t == 0xA) ∧
    runs 0x01000000 (base |> icc 0x5 |> yreg 0x7)
        (fun t => t.readR 0 == 0x0 && iccOf t == 0x5 && t.y == 0x7 && t.pc == 0x1004 && t.npc == 0x1008) ∧
    gives 0x86084002 (base |> r 1 0xF0F0F0F0 |> r 2 0xFF00FF0) (fun t => t.readR 3 == 0xF000F0) ∧
    gives 0x80884002 (base |> r 1 0xF0F0F0F0 |> r 2 0xFF00FF0 |> icc 0xF)
        (fun t => t.readR 0 == 0x0 && iccOf t == 0x0) ∧
    gives 0x8688600F (base |> r 1 0xF0F0F0F0 |> r 2 0xFF00FF0 |> icc 0xB)
        (fun t => t.readR 3 == 0x0 && iccOf t == 0x4) ∧
    gives 0x86284002 (base |> r 1 0xF0F0F0F0 |> r 2 0xFF00FF0) (fun t => t.readR 3 == 0xF000F000) ∧
    gives 0x86A87FFF (base |> r 1 0xF0F0F0F0 |> r 2 0xFF00FF0) (fun t => t.readR 3 == 0x0 && iccOf t == 0x4) := by
  decide +kernel

theorem test_exec_logical_shift_2 :
    gives 0x86106123 (base |> r 1 0xF0F0F0F0 |> r 2 0xFF00FF0) (fun t => t.readR 3 == 0xF0F0F1F3) ∧
    gives 0x86103FFF (base |> r 1 0xF0F0F0F0 |> r 2 0xFF00FF0) (fun t => t.readR 3 == 0xFFFFFFFF) ∧
    gives 0x80900001 (base |> r 1 0xF0F0F0F0 |> r 2 0xFF00FF0) (fun t => iccOf t == 0x8) ∧
    gives 0x86300001 (base |> r 1 0xF0F0F0F0 |> r 2 0xFF00FF0) (fun t => t.readR 3 == 0xF0F0F0F) ∧
    gives 0x86B04002 (base |> r 1 0xF0F0F0F0 |> r 2 0xFF00FF0) (fun t => t.readR 3 == 0xF0FFF0FF && iccOf t == 0x8) ∧
    gives 0x86184002 (base |> r 1 0xF0F0F0F0 |> r 2 0xFF00FF0) (fun t => t.readR 3 == 0xFF00FF00) ∧
    gives 0x86984001 (base |> r 1 0xF0F0F0F0 |> r 2 0xFF00FF0 |> icc 0xB)
        (fun t => t.readR 3 == 0x0 && iccOf t == 0x4) ∧
    gives 0x86384000 (base |> r 1 0xF0F0F0F0 |> r 2 0xFF00FF0) (fun t => t.readR 3 == 0xF0F0F0F) := by
  decide +kernel

theorem test_exec_logical_shift_3 :
    gives 0x86B84002 (base |> r 1 0xF0F0F0F0 |> r 2 0xFF00FF0) (fun t => t.readR 3 == 0xFF00FF && iccOf t == 0x0) ∧
    gives 0x87286004 (base |> r 1 0xF0F0F0F0 |> r 2 0xFF00FF0) (fun t => t.readR 3 == 0xF0F0F00) ∧
    gives 0x87284002 (base |> r 1 0x1 |> r 2 0xFFFFFFE1) (fun t => t.readR 3 == 0x2) ∧
    gives 0x8730601F (base |> r 1 0x80000000 |> r 2 0xFF00FF0) (fun t => t.readR 3 == 0x1) ∧
    gives 0x87306004 (base |> r 1 0xF0F0F0F0 |> r 2 0xFF00FF0) (fun t => t.readR 3 == 0xF0F0F0F) ∧
    gives 0x87386004 (base |> r 1 0xF0F0F0F0 |> r 2 0xFF00FF0) (fun t => t.readR 3 == 0xFF0F0F0F) ∧
    gives 0x8738601F (base |> r 1 0x80000000 |> r 2 0xFF00FF0) (fun t => t.readR 3 == 0xFFFFFFFF) := by
  decide +kernel

theorem test_exec_add_sub_1 :
    gives 0x86004002 (base |> r 1 0xFFFFFFFF |> r 2 0x2 |> icc 0x0) (fun t => t.readR 3 == 0x1 && iccOf t == 0x0) ∧
    gives 0x82007FFF (base |> r 1 0x0) (fun t => t.readR 1 == 0xFFFFFFFF) ∧
    gives 0x86806001 (base |> r 1 0x7FFFFFFF) (fun t => t.readR 3 == 0x80000000 && iccOf t == 0xA) ∧
    gives 0x86806001 (base |> r 1 0xFFFFFFFF) (fun t => t.readR 3 == 0x0 && iccOf t == 0x5) ∧
    gives 0x86404002 (base |> r 1 0x5 |> r 2 0x7 |> icc 0x1) (fun t => t.readR 3 == 0xD && iccOf t == 0x1) ∧
    gives 0x86404002 (base |> r 1 0x5 |> r 2 0x7 |> icc 0xE) (fun t => t.readR 3 == 0xC) ∧
    gives 0x86C04000 (base |> r 1 0xFFFFFFFF |> icc 0x1) (fun t => t.readR 3 == 0x0 && iccOf t == 0x5) ∧
    gives 0x86C04002 (base |> r 1 0x7FFFFFFF |> r 2 0x0 |> icc 0x1)
        (fun t => t.readR 3 == 0x80000000 && iccOf t == 0xA) := by
  decide +kernel

theorem test_exec_add_sub_2 :
    gives 0x86204002 (base |> r 1 0x5 |> r 2 0x7) (fun t => t.readR 3 == 0xFFFFFFFE) ∧
    gives 0x80A04002 (base |> r 1 0x5 |> r 2 0x7) (fun t => iccOf t == 0x9) ∧
    gives 0x80A04002 (base |> r 1 0x7 |> r 2 0x7) (fun t => iccOf t == 0x4) ∧
    gives 0x86604002 (base |> r 1 0x7 |> r 2 0x5 |> icc 0x1) (fun t => t.readR 3 == 0x1) ∧
    gives 0x86E04000 (base |> r 1 0x0 |> icc 0x1) (fun t => t.readR 3 == 0xFFFFFFFF && iccOf t == 0x9) ∧
    gives 0x86E04002 (base |> r 1 0x80000000 |> r 2 0x0 |> icc 0x1)
        (fun t => t.readR 3 == 0x7FFFFFFF && iccOf t == 0x2) ∧
    gives 0x87004002 (base |> r 1 0x8 |> r 2 0x4) (fun t => t.readR 3 == 0xC && iccOf t == 0x0) ∧
    gives 0x87004002 (base |> r 1 0x8 |> r 2 0x5) (fun t => t.readR 3 == 0xD && iccOf t == 0x2) := by
  decide +kernel

theorem test_exec_add_sub_3 :
    gives 0x87104002 (base |> r 1 0x8 |> r 2 0x4 |> icc 0xF) (fun t => t.readR 3 == 0xC && iccOf t == 0x0) ∧
    gives 0x87084002 (base |> r 1 0x8 |> r 2 0xC) (fun t => t.readR 3 == 0xFFFFFFFC && iccOf t == 0x9) ∧
    gives 0x87084002 (base |> r 1 0x9 |> r 2 0x4) (fun t => t.readR 3 == 0x5 && iccOf t == 0x2) ∧
    gives 0x87184002 (base |> r 1 0xC |> r 2 0x4) (fun t => t.readR 3 == 0x8 && iccOf t == 0x0) := by
  decide +kernel

theorem test_exec_mul_div_1 :
    gives 0x83204002 (base |> r 1 0x0 |> r 2 0x5 |> yreg 0x3 |> icc 0x0)
        (fun t => t.readR 1 == 0x5 && t.y == 0x1 && iccOf t == 0x0) ∧
    gives 0x83204002 (base |> r 1 0x5 |> r 2 0x5 |> yreg 0x2 |> icc 0x0)
        (fun t => t.readR 1 == 0x2 && t.y == 0x80000001 && iccOf t == 0x0) ∧
    gives 0x86504002 (base |> r 1 0xFFFFFFFF |> r 2 0xFFFFFFFF |> icc 0xF)
        (fun t => t.readR 3 == 0x1 && t.y == 0xFFFFFFFE && iccOf t == 0xF) ∧
    gives 0x86504002 (base |> r 1 0x6 |> r 2 0x7 |> yreg 0x99) (fun t => t.readR 3 == 0x2A && t.y == 0x0) ∧
    gives 0x86584002 (base |> r 1 0xFFFFFFFF |> r 2 0xFFFFFFFF) (fun t => t.readR 3 == 0x1 && t.y == 0x0) ∧
    gives 0x86584002 (base |> r 1 0xFFFFFFFE |> r 2 0x3) (fun t => t.readR 3 == 0xFFFFFFFA && t.y == 0xFFFFFFFF) ∧
    gives 0x86D04002 (base |> r 1 0x10000 |> r 2 0x10000 |> icc 0xF)
        (fun t => t.readR 3 == 0x0 && t.y == 0x1 && iccOf t == 0x4) ∧
    gives 0x86D04002 (base |> r 1 0x80000000 |> r 2 0x1 |> icc 0x0)
        (fun t => t.readR 3 == 0x80000000 && t.y == 0x0 && iccOf t == 0x8) := by
  decide +kernel

theorem test_exec_mul_div_2 :
    gives 0x86D84002 (base |> r 1 0xFFFFFFFD |> r 2 0x5 |> icc 0x3)
        (fun t => t.readR 3 == 0xFFFFFFF1 && t.y == 0xFFFFFFFF && iccOf t == 0x8) ∧
    gives 0x86D86000 (base |> r 1 0xFFFFFFFD |> yreg 0x5 |> icc 0x0)
        (fun t => t.readR 3 == 0x0 && t.y == 0x0 && iccOf t == 0x4) ∧
    gives 0x86704002 (base |> r 1 0x7 |> r 2 0x2 |> yreg 0x0 |> icc 0xF)
        (fun t => t.readR 3 == 0x3 && iccOf t == 0xF) ∧
    gives 0x86704002 (base |> r 1 0x0 |> r 2 0x2 |> yreg 0x1) (fun t => t.readR 3 == 0x80000000) ∧
    gives 0x86F04002 (base |> r 1 0x0 |> r 2 0x2 |> yreg 0x2 |> icc 0x0)
        (fun t => t.readR 3 == 0xFFFFFFFF && iccOf t == 0xA) ∧
    gives 0x86F04002 (base |> r 1 0x1 |> r 2 0x2 |> yreg 0x0 |> icc 0xF)
        (fun t => t.readR 3 == 0x0 && iccOf t == 0x4) ∧
    gives 0x86784002 (base |> r 1 0xFFFFFFFD |> r 2 0x2 |> yreg 0xFFFFFFFF) (fun t => t.readR 3 == 0xFFFFFFFF) ∧
    gives 0x86784002 (base |> r 1 0x7 |> r 2 0xFFFFFFFE |> yreg 0x0) (fun t => t.readR 3 == 0xFFFFFFFD) := by
  decide +kernel

theorem test_exec_mul_div_3 :
    gives 0x86F84002 (base |> r 1 0xFFFFFFFF |> r 2 0x2 |> yreg 0xFFFFFFFE |> icc 0x0)
        (fun t => t.readR 3 == 0x80000000 && iccOf t == 0x8) ∧
    gives 0x86F84002 (base |> r 1 0x80000000 |> r 2 0x1 |> yreg 0x0 |> icc 0x0)
        (fun t => t.readR 3 == 0x7FFFFFFF && iccOf t == 0x2) := by
  decide +kernel

theorem test_exec_window :
    gives 0x9DE3BFA0 (base |> cwp 0x0 |> wim 0x2 |> r 14 0x3000)
        (fun t => t.psr.cwp == 0x7 && t.readR 14 == 0x2FA0 && t.readR 30 == 0x3000) ∧
    gives 0x81E00000 (base |> cwp 0x0 |> wim 0x0) (fun t => t.psr.cwp == 0x7) ∧
    gives 0x81E80000 (base |> cwp 0x7 |> wim 0x2) (fun t => t.psr.cwp == 0x0) ∧
    gives 0x91EA2001 (base |> cwp 0x7 |> wim 0x2 |> r 8 0x10)
        (fun t => t.psr.cwp == 0x0 && t.readR 8 == 0x11 && t.readRW 7 8 == 0x10) := by
  decide +kernel

theorem test_exec_branch_1 :
    runs 0x12800010 (base |> icc 0x0) (fun t => t.pc == 0x1004 && t.npc == 0x1040 && !t.annul) ∧
    runs 0x10BFFFFC (base) (fun t => t.pc == 0x1004 && t.npc == 0xFF0 && !t.annul) ∧
    runs 0x30800010 (base) (fun t => t.pc == 0x1004 && t.npc == 0x1040 && t.annul) ∧
    runs 0x00800010 (base) (fun t => t.pc == 0x1004 && t.npc == 0x1008 && !t.annul) ∧
    runs 0x20800010 (base) (fun t => t.pc == 0x1004 && t.npc == 0x1008 && t.annul) ∧
    runs 0x14800010 (base |> icc 0x0) (fun t => t.npc == 0x1040) ∧
    runs 0x14800010 (base |> icc 0xA) (fun t => t.npc == 0x1040) ∧
    runs 0x04800010 (base |> icc 0x8) (fun t => t.npc == 0x1040) := by
  decide +kernel

theorem test_exec_branch_2 :
    runs 0x16800010 (base |> icc 0x8) (fun t => t.npc == 0x1008) ∧
    runs 0x06800010 (base |> icc 0x2) (fun t => t.npc == 0x1040) ∧
    runs 0x18800010 (base |> icc 0x4) (fun t => t.npc == 0x1008) ∧
    runs 0x08800010 (base |> icc 0x1) (fun t => t.npc == 0x1040) ∧
    runs 0x1A800010 (base |> icc 0x1) (fun t => t.npc == 0x1008) ∧
    runs 0x0A800010 (base |> icc 0x1) (fun t => t.npc == 0x1040) ∧
    runs 0x1C800010 (base |> icc 0x8) (fun t => t.npc == 0x1008) ∧
    runs 0x0C800010 (base |> icc 0x8) (fun t => t.npc == 0x1040) := by
  decide +kernel

theorem test_exec_branch_3 :
    runs 0x1E800010 (base |> icc 0x2) (fun t => t.npc == 0x1008) ∧
    runs 0x0E800010 (base |> icc 0x2) (fun t => t.npc == 0x1040) ∧
    runs 0x02800010 (base |> icc 0x4 |> pc 0x1000 |> npc 0x2000) (fun t => t.pc == 0x2000 && t.npc == 0x1040) ∧
    runs 0x03800010 (base |> ef 0x0)
        (fun t => t.tbr.tt == 0x4 && t.pc == 0x40 && t.readR 17 == 0x1000 && t.readR 18 == 0x1004 && t.psr.ps) ∧
    runs 0x03C00010 (base)
        (fun t => t.tbr.tt == 0x24 && t.pc == 0x240 && t.readR 17 == 0x1000 && t.readR 18 == 0x1004 && t.psr.ps) ∧
    runs 0x31C00010 (base)
        (fun t => t.tbr.tt == 0x24 && t.pc == 0x240 && t.readR 17 == 0x1000 && t.readR 18 == 0x1004 && t.psr.ps && !t.annul) := by
  decide +kernel

theorem test_exec_control_1 :
    runs 0x40000040 (base) (fun t => t.readR 15 == 0x1000 && t.pc == 0x1004 && t.npc == 0x1100) ∧
    runs 0x7FFFFFC0 (base) (fun t => t.readR 15 == 0x1000 && t.pc == 0x1004 && t.npc == 0xF00) ∧
    runs 0x81C3E008 (base |> r 15 0x1234) (fun t => t.pc == 0x1004 && t.npc == 0x123C) ∧
    runs 0x81C7E008 (base |> r 31 0x1234) (fun t => t.pc == 0x1004 && t.npc == 0x123C) ∧
    runs 0x81CC8000 (base |> cwp 0x7 |> et 0x0 |> sup 0x1 |> ps 0x0 |> wim 0x2 |> r 18 0x2004 |> pc 0x1000 |> npc 0x2000)
        (fun t => t.pc == 0x2000 && t.npc == 0x2004 && t.psr.cwp == 0x0 && !t.psr.s && t.psr.et && !t.psr.ps) ∧
    runs 0x81CCA004 (base |> cwp 0x3 |> et 0x0 |> sup 0x1 |> ps 0x1 |> wim 0x0 |> r 18 0x2004)
        (fun t => t.npc == 0x2008 && t.psr.cwp == 0x4 && t.psr.s && t.psr.et && t.psr.ps) ∧
    runs 0x91D02005 (base |> cwp 0x3 |> tba 0x40000 |> sup 0x0 |> icc 0x5)
        (fun t => t.tbr.tt == 0x85 && t.pc == 0x40000850 && t.readR 17 == 0x1000 && t.readR 18 == 0x1004 && !t.psr.ps && t.tbr.toWord == 0x40000850 && iccOf t == 0x5) ∧
    runs 0x81D02005 (base) (fun t => t.pc == 0x1004 && t.npc == 0x1008) := by
  decide +kernel

theorem test_exec_control_2 :
    runs 0x93D02005 (base |> icc 0x4) (fun t => t.pc == 0x1004 && t.npc == 0x1008) ∧
    runs 0x83D02005 (base |> icc 0x4 |> tba 0x1)
        (fun t => t.tbr.tt == 0x85 && t.pc == 0x1850 && t.readR 17 == 0x1000 && t.readR 18 == 0x1004 && t.psr.ps && t.tbr.toWord == 0x1850) ∧
    runs 0x95D02001 (base |> icc 0x0 |> tba 0x1)
        (fun t => t.tbr.tt == 0x81 && t.pc == 0x1810 && t.readR 17 == 0x1000 && t.readR 18 == 0x1004 && t.psr.ps && t.tbr.toWord == 0x1810) ∧
    runs 0x85D02001 (base |> icc 0x0) (fun t => t.pc == 0x1004) ∧
    runs 0x97D02001 (base |> icc 0xA |> tba 0x1)
        (fun t => t.tbr.tt == 0x81 && t.pc == 0x1810 && t.readR 17 == 0x1000 && t.readR 18 == 0x1004 && t.psr.ps && t.tbr.toWord == 0x1810) ∧
    runs 0x87D02001 (base |> icc 0xA) (fun t => t.pc == 0x1004) ∧
    runs 0x99D02001 (base |> icc 0x0 |> tba 0x1)
        (fun t => t.tbr.tt == 0x81 && t.pc == 0x1810 && t.readR 17 == 0x1000 && t.readR 18 == 0x1004 && t.psr.ps && t.tbr.toWord == 0x1810) ∧
    runs 0x89D02001 (base |> icc 0x0) (fun t => t.pc == 0x1004) := by
  decide +kernel

theorem test_exec_control_3 :
    runs 0x9BD02001 (base |> icc 0x0 |> tba 0x1)
        (fun t => t.tbr.tt == 0x81 && t.pc == 0x1810 && t.readR 17 == 0x1000 && t.readR 18 == 0x1004 && t.psr.ps && t.tbr.toWord == 0x1810) ∧
    runs 0x8BD02001 (base |> icc 0x0) (fun t => t.pc == 0x1004) ∧
    runs 0x9DD02001 (base |> icc 0x0 |> tba 0x1)
        (fun t => t.tbr.tt == 0x81 && t.pc == 0x1810 && t.readR 17 == 0x1000 && t.readR 18 == 0x1004 && t.psr.ps && t.tbr.toWord == 0x1810) ∧
    runs 0x8DD02001 (base |> icc 0x0) (fun t => t.pc == 0x1004) ∧
    runs 0x9FD02001 (base |> icc 0x0 |> tba 0x1)
        (fun t => t.tbr.tt == 0x81 && t.pc == 0x1810 && t.readR 17 == 0x1000 && t.readR 18 == 0x1004 && t.psr.ps && t.tbr.toWord == 0x1810) ∧
    runs 0x8FD02001 (base |> icc 0x2 |> tba 0x1)
        (fun t => t.tbr.tt == 0x81 && t.pc == 0x1810 && t.readR 17 == 0x1000 && t.readR 18 == 0x1004 && t.psr.ps && t.tbr.toWord == 0x1810) := by
  decide +kernel

theorem test_exec_state_register_1 :
    gives 0x83400000 (base |> yreg 0xDEADBEEF) (fun t => t.readR 1 == 0xDEADBEEF) ∧
    gives 0x81806055 (base |> r 1 0xFF) (fun t => t.y == 0xAA) ∧
    gives 0x81800001 (base |> r 1 0x12345678) (fun t => t.y == 0x12345678) ∧
    gives 0x83480000 (base |> cwp 0x3 |> icc 0xA |> pil 0x5 |> sup 0x1 |> ps 0x1 |> et 0x1 |> ef 0x1)
        (fun t => t.readR 1 == 0xA015E3) ∧
    gives 0x81884000 (base |> r 1 0xF010E2)
        (fun t => t.psr.toWord t.cfg == 0xF010E2 && t.psr.cwp == 0x2 && t.psr.s && t.psr.et && t.psr.pil == 0x0 && t.psr.ef && t.psr.ef && t.psr.pil == 0x0 && t.psr.s && t.psr.ps && t.psr.et && t.psr.cwp == 0x2) ∧
    gives 0x83500000 (base |> wim 0x81) (fun t => t.readR 1 == 0x81) ∧
    gives 0x81903FFF (base) (fun t => t.wim == 0xFF) ∧
    gives 0x83580000 (base |> tba 0x40000) (fun t => t.readR 1 == 0x40000000 && t.tbr.tt == 0x0) := by
  decide +kernel

theorem test_exec_state_register_2 :
    gives 0x81984000 (base |> r 1 0xABCDEFFF) (fun t => t.tbr.toWord == 0xABCDE000) ∧
    runs 0x83444000 (base)
        (fun t => t.tbr.tt == 0x2 && t.pc == 0x20 && t.readR 17 == 0x1000 && t.readR 18 == 0x1004 && t.psr.ps) ∧
    runs 0xA3806000 (base)
        (fun t => t.tbr.tt == 0x2 && t.pc == 0x20 && t.readR 17 == 0x1000 && t.readR 18 == 0x1004 && t.psr.ps) ∧
    runs 0x8143C000 (base |> icc 0x5) (fun t => t.pc == 0x1004 && t.npc == 0x1008 && iccOf t == 0x5) ∧
    runs 0x00001234 (base)
        (fun t => t.tbr.tt == 0x2 && t.pc == 0x20 && t.readR 17 == 0x1000 && t.readR 18 == 0x1004 && t.psr.ps) ∧
    runs 0x81D86004 (base |> r 1 0x2001) (fun t => t.pc == 0x1004 && t.npc == 0x1008) := by
  decide +kernel

theorem test_exec_float_1 :
    gives 0x85A00021 (base |> ef 0x1 |> f 1 0xFFC00001 |> cexc 0x1F |> aexc 0x0)
        (fun t => t.readF 2 == 0xFFC00001 && t.fsr.cexc == 0x0 && t.fsr.aexc == 0x0 && t.fsr.ftt == 0x0) ∧
    gives 0x85A000A1 (base |> ef 0x1 |> f 1 0x3F800000) (fun t => t.readF 2 == 0xBF800000) ∧
    gives 0x83A000A1 (base |> ef 0x1 |> f 1 0x7FC00000) (fun t => t.readF 1 == 0xFFC00000 && t.fsr.cexc == 0x0) ∧
    gives 0x85A00121 (base |> ef 0x1 |> f 1 0xC0200000) (fun t => t.readF 2 == 0x40200000) ∧
    gives 0x85A01881 (base |> ef 0x1 |> f 1 0x7) (fun t => t.readF 2 == 0x40E00000 && t.fsr.cexc == 0x0) ∧
    gives 0x85A01881 (base |> ef 0x1 |> f 1 0x1000001 |> rnd 0x0 |> tem 0x0)
        (fun t => t.readF 2 == 0x4B800000 && t.fsr.cexc == 0x1) ∧
    gives 0x85A01901 (base |> ef 0x1 |> f 1 0x80000000)
        (fun t => t.readFd 2 == 0xC1E0000000000000 && t.fsr.cexc == 0x0) ∧
    gives 0x89A01981 (base |> ef 0x1 |> f 1 0x3) (fun t => t.readFq 4 == 0x40008000000000000000000000000000) := by
  decide +kernel

theorem test_exec_float_2 :
    gives 0x85A01A21 (base |> ef 0x1 |> f 1 0x40200000 |> rnd 0x0) (fun t => t.readF 2 == 0x2 && t.fsr.cexc == 0x1) ∧
    gives 0x85A01A21 (base |> ef 0x1 |> f 1 0xC0200000 |> rnd 0x3)
        (fun t => t.readF 2 == 0xFFFFFFFE && t.fsr.cexc == 0x1) ∧
    gives 0x83A01A42 (base |> ef 0x1 |> fd 2 0xC01C000000000000)
        (fun t => t.readF 1 == 0xFFFFFFF9 && t.fsr.cexc == 0x0) ∧
    gives 0x85A01921 (base |> ef 0x1 |> f 1 0x3DCCCCCD)
        (fun t => t.readFd 2 == 0x3FB99999A0000000 && t.fsr.cexc == 0x0) ∧
    gives 0x83A018C2 (base |> ef 0x1 |> fd 2 0x3FB999999999999A |> rnd 0x0)
        (fun t => t.readF 1 == 0x3DCCCCCD && t.fsr.cexc == 0x1) ∧
    gives 0x83A018C2 (base |> ef 0x1 |> fd 2 0x7E37E43C8800759C |> tem 0x0 |> rnd 0x0)
        (fun t => t.readF 1 == 0x7F800000) ∧
    gives 0x85A00521 (base |> ef 0x1 |> f 1 0x40800000) (fun t => t.readF 2 == 0x40000000 && t.fsr.cexc == 0x0) ∧
    gives 0x85A00521 (base |> ef 0x1 |> f 1 0x40000000 |> rnd 0x0)
        (fun t => t.readF 2 == 0x3FB504F3 && t.fsr.cexc == 0x1) := by
  decide +kernel

theorem test_exec_float_3 :
    gives 0x89A00542 (base |> ef 0x1 |> fd 2 0x4022000000000000) (fun t => t.readFd 4 == 0x4008000000000000) ∧
    gives 0x87A04822 (base |> ef 0x1 |> f 1 0x3F800000 |> f 2 0x40000000)
        (fun t => t.readF 3 == 0x40400000 && t.fsr.cexc == 0x0) ∧
    gives 0x8DA08844 (base |> ef 0x1 |> fd 2 0x3FB999999999999A |> fd 4 0x3FC999999999999A |> rnd 0x0)
        (fun t => t.readFd 6 == 0x3FD3333333333334 && t.fsr.cexc == 0x1) ∧
    gives 0x99A10868 (base |> ef 0x1 |> fq 4 0x3FFF0000000000000000000000000000 |> fq 8 0x3FFF4000000000000000000000000000)
        (fun t => t.readFq 12 == 0x40002000000000000000000000000000 && t.fsr.cexc == 0x0) ∧
    gives 0x87A048A2 (base |> ef 0x1 |> f 1 0x3F800000 |> f 2 0x3F800000 |> rnd 0x0)
        (fun t => t.readF 3 == 0x0 && t.fsr.cexc == 0x0) ∧
    gives 0x87A048A2 (base |> ef 0x1 |> f 1 0x3F800000 |> f 2 0x3F800000 |> rnd 0x3)
        (fun t => t.readF 3 == 0x80000000 && t.fsr.cexc == 0x0) ∧
    gives 0x8DA088C4 (base |> ef 0x1 |> fd 2 0x3FF0000000000000 |> fd 4 0x3FE0000000000000)
        (fun t => t.readFd 6 == 0x3FE0000000000000) ∧
    gives 0x87A04922 (base |> ef 0x1 |> f 1 0x3FC00000 |> f 2 0xC0000000)
        (fun t => t.readF 3 == 0xC0400000 && t.fsr.cexc == 0x0) := by
  decide +kernel

theorem test_exec_float_4 :
    gives 0x87A04922 (base |> ef 0x1 |> f 1 0x0 |> f 2 0x7F800000 |> tem 0x0) (fun t => t.fsr.cexc == 0x10) ∧
    gives 0x8DA08944 (base |> ef 0x1 |> fd 2 0x4008000000000000 |> fd 4 0x3FE0000000000000)
        (fun t => t.readFd 6 == 0x3FF8000000000000) ∧
    gives 0x89A04D22 (base |> ef 0x1 |> f 1 0x3DCCCCCD |> f 2 0x3DCCCCCD)
        (fun t => t.readFd 4 == 0x3F847AE151EB8520 && t.fsr.cexc == 0x0) ∧
    gives 0x91A08DC4 (base |> ef 0x1 |> fd 2 0x4008000000000000 |> fd 4 0x3FE0000000000000)
        (fun t => t.readFq 8 == 0x3FFF8000000000000000000000000000 && t.fsr.cexc == 0x0) ∧
    gives 0x87A049A2 (base |> ef 0x1 |> f 1 0x3F800000 |> f 2 0x0 |> tem 0x0)
        (fun t => t.readF 3 == 0x7F800000 && t.fsr.cexc == 0x2) ∧
    gives 0x8DA089C4 (base |> ef 0x1 |> fd 2 0x3FF0000000000000 |> fd 4 0x4008000000000000 |> rnd 0x0)
        (fun t => t.readFd 6 == 0x3FD5555555555555 && t.fsr.cexc == 0x1) ∧
    gives 0x81A84A22 (base |> ef 0x1 |> f 1 0x3F800000 |> f 2 0x40000000)
        (fun t => t.fsr.fcc == 0x1 && t.fsr.cexc == 0x0) ∧
    gives 0x81A84A22 (base |> ef 0x1 |> f 1 0x40000000 |> f 2 0x3F800000) (fun t => t.fsr.fcc == 0x2) := by
  decide +kernel

theorem test_exec_float_5 :
    gives 0x81A84AA2 (base |> ef 0x1 |> f 1 0x7FC00000 |> f 2 0x3F800000 |> tem 0x0)
        (fun t => t.fsr.fcc == 0x3 && t.fsr.cexc == 0x10) ∧
    gives 0x81A88A44 (base |> ef 0x1 |> fd 2 0x3FB999999999999A |> fd 4 0x3FB999999999999A)
        (fun t => t.fsr.fcc == 0x0) ∧
    gives 0x81A90AE8 (base |> ef 0x1 |> fq 4 0x3FFF0000000000000000000000000000 |> fq 8 0x40008000000000000000000000000000)
        (fun t => t.fsr.fcc == 0x1) ∧
    runs 0x87A04002 (base |> ef 0x1) (fun t => t.fsr.ftt == 0x3 && t.tbr.tt == 8) ∧
    runs 0x81B00000 (base |> ef 0x1) (fun t => t.tbr.tt == 0x24) ∧
    runs 0xBFBFFFFF (base |> ef 0x1) (fun t => t.tbr.tt == 0x24) ∧
    runs 0x03800010 (base |> ef 0x1 |> fcc 0x1 |> pc 0x1000 |> npc 0x1004)
        (fun t => t.pc == 0x1004 && t.npc == 0x1040 && !t.annul) ∧
    runs 0x09800010 (base |> ef 0x1 |> fcc 0x1 |> pc 0x1000 |> npc 0x1004)
        (fun t => t.pc == 0x1004 && t.npc == 0x1040 && !t.annul) := by
  decide +kernel

theorem test_exec_float_6 :
    runs 0x09800010 (base |> ef 0x1 |> fcc 0x3 |> pc 0x1000 |> npc 0x1004)
        (fun t => t.pc == 0x1004 && t.npc == 0x1008 && !t.annul) ∧
    runs 0x07800010 (base |> ef 0x1 |> fcc 0x3 |> pc 0x1000 |> npc 0x1004)
        (fun t => t.pc == 0x1004 && t.npc == 0x1040 && !t.annul) ∧
    runs 0x0D800010 (base |> ef 0x1 |> fcc 0x2 |> pc 0x1000 |> npc 0x1004)
        (fun t => t.pc == 0x1004 && t.npc == 0x1040 && !t.annul) ∧
    runs 0x0B800010 (base |> ef 0x1 |> fcc 0x1 |> pc 0x1000 |> npc 0x1004)
        (fun t => t.pc == 0x1004 && t.npc == 0x1008 && !t.annul) ∧
    runs 0x0F800010 (base |> ef 0x1 |> fcc 0x3 |> pc 0x1000 |> npc 0x1004)
        (fun t => t.pc == 0x1004 && t.npc == 0x1040 && !t.annul) ∧
    runs 0x05800010 (base |> ef 0x1 |> fcc 0x2 |> pc 0x1000 |> npc 0x1004)
        (fun t => t.pc == 0x1004 && t.npc == 0x1040 && !t.annul) ∧
    runs 0x05800010 (base |> ef 0x1 |> fcc 0x0 |> pc 0x1000 |> npc 0x1004)
        (fun t => t.pc == 0x1004 && t.npc == 0x1008 && !t.annul) ∧
    runs 0x13800010 (base |> ef 0x1 |> fcc 0x0 |> pc 0x1000 |> npc 0x1004)
        (fun t => t.pc == 0x1004 && t.npc == 0x1040 && !t.annul) := by
  decide +kernel

theorem test_exec_float_7 :
    runs 0x15800010 (base |> ef 0x1 |> fcc 0x3 |> pc 0x1000 |> npc 0x1004)
        (fun t => t.pc == 0x1004 && t.npc == 0x1040 && !t.annul) ∧
    runs 0x17800010 (base |> ef 0x1 |> fcc 0x1 |> pc 0x1000 |> npc 0x1004)
        (fun t => t.pc == 0x1004 && t.npc == 0x1008 && !t.annul) ∧
    runs 0x19800010 (base |> ef 0x1 |> fcc 0x3 |> pc 0x1000 |> npc 0x1004)
        (fun t => t.pc == 0x1004 && t.npc == 0x1040 && !t.annul) ∧
    runs 0x1B800010 (base |> ef 0x1 |> fcc 0x1 |> pc 0x1000 |> npc 0x1004)
        (fun t => t.pc == 0x1004 && t.npc == 0x1040 && !t.annul) ∧
    runs 0x1D800010 (base |> ef 0x1 |> fcc 0x2 |> pc 0x1000 |> npc 0x1004)
        (fun t => t.pc == 0x1004 && t.npc == 0x1008 && !t.annul) ∧
    runs 0x1F800010 (base |> ef 0x1 |> fcc 0x3 |> pc 0x1000 |> npc 0x1004)
        (fun t => t.pc == 0x1004 && t.npc == 0x1008 && !t.annul) ∧
    runs 0x1F800010 (base |> ef 0x1 |> fcc 0x2 |> pc 0x1000 |> npc 0x1004)
        (fun t => t.pc == 0x1004 && t.npc == 0x1040 && !t.annul) ∧
    runs 0x31800010 (base |> ef 0x1) (fun t => t.pc == 0x1004 && t.npc == 0x1040 && t.annul) := by
  decide +kernel

theorem test_exec_float_8 :
    runs 0x21800010 (base |> ef 0x1) (fun t => t.pc == 0x1004 && t.npc == 0x1008 && t.annul) := by
  decide +kernel

/-- A coprocessor with the condition `c`. -/
def cc (c : BitVec 2) (s : State) : State :=
  { s with
    cfg := { s.cfg with cpPresent := true, cqPresent := true, stdcqPops := true }
    psr := { s.psr with ec := true }
    cp := { s.cp with cc := c, csr := 0xCAFEF00D, cq := [0x1122334455667788] } }

def taken (w : Word) (s : State) : Bool := runs w s (fun t => t.pc == s.npc && t.npc == s.pc + 64 && !t.annul)

/-- CBccc to PC + 64 (46 R320): cond = insn[28:25] and the values of bp_CP_cc that take it. -/
theorem test_exec_cbccc :
    ∀ e ∈ ([(0x01C00010, [false, false, false, false]), (0x0FC00010, [false, false, false, true]),
        (0x0DC00010, [false, false, true, false]), (0x0BC00010, [false, false, true, true]),
        (0x09C00010, [false, true, false, false]), (0x07C00010, [false, true, false, true]),
        (0x05C00010, [false, true, true, false]), (0x03C00010, [false, true, true, true]),
        (0x11C00010, [true, true, true, true]), (0x13C00010, [true, false, false, false]),
        (0x15C00010, [true, false, false, true]), (0x17C00010, [true, false, true, false]),
        (0x19C00010, [true, false, true, true]), (0x1BC00010, [true, true, false, false]),
        (0x1DC00010, [true, true, false, true]), (0x1FC00010, [true, true, true, false])] : List (Word × List Bool)),
      [taken e.1 (base |> cc 0), taken e.1 (base |> cc 1), taken e.1 (base |> cc 2), taken e.1 (base |> cc 3)] = e.2 := by
  decide +kernel

/-- LDC writes the register it names (40 R158), whatever else the coprocessor makes of it. -/
theorem test_load_c (s : State) : (s.loadC 1 0x12345678).readC 1 = 0x12345678 := by
  simp [State.loadC, State.readC, State.writeC]

/-- Coprocessor loads and stores (40 R158 to R160, 41 R185 to R188), and CPop1 advancing (49 R461). -/
theorem test_exec_cp :
    gives 0xC3804000 (base |> cc 0 |> r 1 0x2000 |> mem4 0x2000 0x12345678) (fun _ => true) ∧
    gives 0xC1884000 (base |> cc 0 |> r 1 0x2000 |> mem4 0x2000 0x12345678) (fun t => t.cp.csr == 0x12345678) ∧
    gives 0xC1A84000 (base |> cc 0 |> r 1 0x2000) (fun t => t.mem.read4 0x2000 == some 0xCAFEF00D) ∧
    gives 0xC1B04000 (base |> cc 0 |> r 1 0x2000) (fun t => t.mem.read8 0x2000 == some 0x1122334455667788 && t.cp.cq == []) ∧
    gives 0x81B00000 (base |> cc 0) (fun _ => true) := by
  decide +kernel

/-- The alternate forms the vectors leave out (40 R148 to R150, 41 R176). -/
theorem test_exec_alternate :
    gives 0xC6D04160 (base |> r 1 0x2000 |> mem4 0x2000 0x80917F00) (fun t => t.readR 3 == 0xFFFF8091) ∧
    gives 0xC6884160 (base |> r 1 0x2000 |> mem4 0x2000 0x80917F00) (fun t => t.readR 3 == 0x80) ∧
    gives 0xC6904160 (base |> r 1 0x2000 |> mem4 0x2000 0x80917F00) (fun t => t.readR 3 == 0x8091) ∧
    gives 0xC6B04160 (base |> r 1 0x2000 |> r 3 0x12345678 |> mem4 0x2000 0)
        (fun t => t.mem.read4 0x2000 == some 0x56780000) := by
  decide +kernel

/-- Quad forms the vectors leave out, on numbers whose encodings 10_state R46 gives by hand: 1, 1.25, 1.5, 2, 3, 4. -/
theorem test_exec_quad :
    gives 0x89A019A1 (base |> ef 1 |> f 1 0x3F800000) (fun t => t.readFq 4 == 0x3FFF0000000000000000000000000000) ∧
    gives 0x89A019C2 (base |> ef 1 |> fd 2 0x4008000000000000) (fun t => t.readFq 4 == 0x40008000000000000000000000000000) ∧
    gives 0x83A018E4 (base |> ef 1 |> fq 4 0x40008000000000000000000000000000) (fun t => t.readF 1 == 0x40400000) ∧
    gives 0x85A01964 (base |> ef 1 |> fq 4 0x3FFF0000000000000000000000000000) (fun t => t.readFd 2 == 0x3FF0000000000000) ∧
    gives 0x83A01A64 (base |> ef 1 |> fq 4 0x40008000000000000000000000000000) (fun t => t.readF 1 == 3) ∧
    gives 0x91A00564 (base |> ef 1 |> fq 4 0x40010000000000000000000000000000)
        (fun t => t.readFq 8 == 0x40000000000000000000000000000000) ∧
    gives 0x99A108E8 (base |> ef 1 |> fq 4 0x3FFF4000000000000000000000000000 |> fq 8 0x3FFF0000000000000000000000000000)
        (fun t => t.readFq 12 == 0x3FFD0000000000000000000000000000) ∧
    gives 0x99A10968 (base |> ef 1 |> fq 4 0x40008000000000000000000000000000 |> fq 8 0x3FFF4000000000000000000000000000)
        (fun t => t.readFq 12 == 0x4000E000000000000000000000000000) ∧
    gives 0x99A109E8 (base |> ef 1 |> fq 4 0x40008000000000000000000000000000 |> fq 8 0x3FFF8000000000000000000000000000)
        (fun t => t.readFq 12 == 0x40000000000000000000000000000000) ∧
    gives 0x81A90A68 (base |> ef 1 |> fq 4 0x3FFF0000000000000000000000000000 |> fq 8 0x40008000000000000000000000000000)
        (fun t => t.fsr.fcc == 1) ∧
    gives 0x81A88AC4 (base |> ef 1 |> fd 2 0x4008000000000000 |> fd 4 0x4008000000000000) (fun t => t.fsr.fcc == 0) := by
  decide +kernel

/-! ### Interrupts, error_mode, reset, what stops (95_test_vectors section 2.13; logs 2, 3, 16) -/

/-- One step of a state answers a next state of which `p` holds. -/
def steps (s : State) (p : State → Bool) : Bool :=
  match step s with
  | .next t => p t
  | .fault _ => false
  | .refused _ => false

/-- A step stops with this fault. -/
def faults (s : State) (x : Fault) : Bool :=
  match step s with
  | .next _ => false
  | .fault y => x == y
  | .refused _ => false

/-- A step is refused for this reason. -/
def refuses (s : State) (x : Refusal) : Bool :=
  match step s with
  | .next _ => false
  | .fault _ => false
  | .refused y => x == y

def irl (v : BitVec 4) (s : State) : State := { s with irl := v }

theorem test_step_interrupt :
    steps (base |> tba 0x40000 |> pil 2 |> sup 0 |> irl 3)
        (fun t => t.tbr.tt == 0x13 && t.pc == 0x40000130 && t.npc == 0x40000134 && t.psr.s && !t.psr.ps && !t.psr.et &&
          t.psr.cwp == 7 && t.psr.pil == 2 && t.readR 17 == 0x1000 && t.readR 18 == 0x1004) ∧
    steps (base |> pil 15 |> irl 15) (fun t => t.tbr.tt == 0x1F && t.pc == 0x1F0) ∧
    steps (base |> mem4 0x1000 0x01000000 |> pil 3 |> irl 3) (fun t => t.pc == 0x1004 && t.psr.et) ∧
    steps (base |> mem4 0x1000 0x01000000 |> et 0 |> irl 15) (fun t => t.pc == 0x1004 && !t.errorMode) := by
  decide +kernel

theorem test_step_interrupt_discards_annulled :
    steps { (base |> pc 0x1004 |> npc 0x1040 |> irl 5) with annul := true }
      (fun t => !t.annul && t.readR 17 == 0x1040 && t.readR 18 == 0x1044 && t.tbr.tt == 0x15 && t.pc == 0x150) := by
  decide +kernel

theorem test_step_error_mode : faults { base with errorMode := true } .errorMode := by decide +kernel

theorem test_step_reset :
    steps { (base |> sup 0) with resetReq := true, errorMode := true, tbr := { tba := 0x40000, tt := 0x85 } }
      (fun t => t.pc == 0 && t.npc == 4 && t.psr.s && !t.psr.et && !t.errorMode && t.tbr.tt == 0x85) := by
  decide +kernel

theorem test_step_unwritten : faults base .memoryUnwritten := by decide +kernel

theorem test_step_asi_without_storage :
    refuses ((base |> r 1 0x2000).withFetchWord 32 0xC6804640) (.asiWithoutStorage 0x32) := by
  decide +kernel

theorem test_step_unused_bits :
    refuses ({ base with cfg := { base.cfg with unusedBits := .refuse } }.withFetchWord 32 0x86004022)
      (.unusedFieldSet 0x86004022) ∧
    gives 0x86004022 (base |> r 1 5 |> r 2 6) (fun t => t.readR 3 == 11) := by
  decide +kernel

/-- FPops no row assigns (49 R454) and words no row assigns (30 R117). -/
theorem test_step_unassigned :
    runs 0x87A04002 (base |> ef 1) (fun t => t.tbr.tt == 8 && t.fsr.ftt == 3) ∧
    runs 0x87A84822 (base |> ef 1) (fun t => t.tbr.tt == 8 && t.fsr.ftt == 3) ∧
    runs 0x81780000 base (fun t => t.tbr.tt == 2) ∧ runs 0xC0400000 base (fun t => t.tbr.tt == 2) := by
  decide +kernel

/-- The oracle answers a read of r[1], the cell 1 (60 R471, tt 0x20 by R472): an ADD of it traps, a SETHI of it does not. -/
theorem test_step_register_error :
    let s := { base with cfg := { base.cfg with memFaults := [⟨.register, 0x09, 1, 1, none, none, .rRegisterAccessError⟩] } }
    runs 0x86004002 s (fun t => t.tbr.tt == 0x20 && t.pc == 0x200 && t.readR 17 == 0x1000) ∧
      gives 0x03048D15 s (fun t => t.g[1] == 0x12345400) := by
  decide +kernel

/-- A FLUSH of a doubleword that counts already does not start it again (20 R88). -/
theorem test_flush_counts_once :
    ((base |> r 1 0x2000).flushDword 0x2000).ibuf = [] ∧
      ({ base with ibuf := [⟨0x2000, [], some 2⟩, ⟨0x2000, [], none⟩, ⟨0x3000, [], none⟩] }.flushDword 0x2004).ibuf =
        [⟨0x2000, [], some 2⟩, ⟨0x2000, [], some 5⟩, ⟨0x3000, [], none⟩] := by
  decide +kernel

/-- One of several instructions in turn answers a next state of which `p` holds. -/
def inTurn (is : List Instr) (s : State) (p : State → Bool) : Bool :=
  match execAll is s with
  | .next t => p t
  | .fault _ => false
  | .refused _ => false

/-- A handler entered in a WRWIM window: RDWIM finds the new value, the window is still open (48 R392, statements 2 and 6). -/
theorem test_window_in_handler :
    inTurn [.wrwim 0 (.imm 0x41), .ta 0 (.imm 5)] base (fun t => t.inWindow .wim && t.openMask .wim != 0) ∧
      inTurn [.wrwim 0 (.imm 0x41), .ta 0 (.imm 5), .rdwim 1] base (fun t => t.g[1] == 0x41) := by
  decide +kernel

/-- On an FPU with a queue 1 / 0 with DZ enabled goes to the queue, and the next FBfcc takes the trap (60 R476(a), R478). -/
theorem test_deferred_trap :
    let s := { (base |> ef 1 |> f 1 0x3F800000 |> tem 2) with cfg := { base.cfg with fqPresent := true } }
    inTurn [.fdivs 3 1 2] s (fun t => t.fpPending == some 1 && t.fq.length == 1 && t.fsr.cexc == 2 && t.pc == 0x1004) ∧
      inTurn [.fdivs 3 1 2, .fba false 4] s (fun t => t.fpPending == none && t.tbr.tt == 8 && t.fsr.ftt == 1 && t.fq.length == 1) ∧
      inTurn [.fdivs 3 1 2, .fba false 4, .ldf 3 0 (.imm 0)] s (fun t => t.errorMode) := by
  decide +kernel

/-- The state after reset runs an instruction placed for it, with no register read before it holds a value. -/
theorem test_reset_runs :
    steps (State.reset.withFetchWord 32 0x82106123) (fun t => t.g[1] == 0x123 && t.pc == 4 && t.npc == 8) := by
  decide +kernel

/-! ### For each statement with hypotheses, a state and operands that meet them -/

/-- A doubleword at 0x2000, its address in r[1]. -/
def data : State := base |> r 1 0x2000 |> mem8 0x2000 0x8091A2B3C4D5E6F7

/-- The same with the FPU enabled. -/
def fpu : State := data |> ef 1

/-- The same with the coprocessor enabled and silent. -/
def cop : State := data |> cc 2

/-- An open window of a WRPSR that changed nothing but the CWP, from 3. -/
def opened : State := { base with pending := [{ reg := .psr, left := 2, changed := 0x1F, old := 0x000000A3 }] }

/-- A decidable form of `FpReady`. -/
def fpReady (s : State) (regs : List (Prec × RegNum)) : Bool :=
  s.fpEnabled && s.deferredTrap == none && !s.qne && (!s.cfg.fregAlignTraps || regsAligned regs)

theorem fpReady_sound (s : State) (regs : List (Prec × RegNum)) (h : fpReady s regs = true) : FpReady s regs := by
  simp only [fpReady, Bool.and_eq_true, Bool.or_eq_true, Bool.not_eq_true', beq_iff_eq] at h
  obtain ⟨⟨⟨h1, h2⟩, h3⟩, h4⟩ := h
  exact ⟨h1, h2, h3, fun h => h4.resolve_left (by simp [h])⟩

/-- A decidable form of `BytesAt`. -/
def bytesAt (m : Memory) (k n v : Nat) : Bool := (List.range n).all (fun j => m.read1 (k + j) == some (byteOf n v j))

theorem bytesAt_sound (m : Memory) (k n v : Nat) (h : bytesAt m k n v = true) : BytesAt m k n v := by
  intro j hj
  simp only [bytesAt, List.all_eq_true, List.mem_range, beq_iff_eq] at h
  exact h j hj

/-- The oracle answers every data access with data_access_exception. -/
def denied (s : State) : State :=
  { s with
    cfg := { s.cfg with
      memFaults := [⟨.read, 0x0B, 0, 0xFFFFFFFF, none, none, .dataAccessException⟩,
        ⟨.write, 0x0B, 0, 0xFFFFFFFF, none, none, .dataAccessException⟩,
        ⟨.atomic, 0x0B, 0, 0xFFFFFFFF, none, none, .dataAccessException⟩] } }

/-- An FPU with a queue. -/
def queued (s : State) : State := { s with cfg := { s.cfg with fqPresent := true } }

theorem witness_StepKeepsInvariant :
    Inv (base.withFetchWord 32 0x01000000) ∧ ∃ t, step (base.withFetchWord 32 0x01000000) = .next t := by
  refine ⟨⟨by decide +kernel, by decide +kernel, by decide +kernel, by decide +kernel, by decide +kernel,
    by decide +kernel⟩, ?_⟩
  have h : runs 0x01000000 base (fun _ => true) = true := by decide +kernel
  unfold runs at h
  split at h
  · next t e => exact ⟨t, e⟩
  · cases h
  · cases h

theorem witness_DecodeEncode :
    (Instr.sethi 0 1).WellFormed ∧ (Instr.rdasr 1 ⟨15, 0⟩).WellFormed ∧ (Instr.wrasr 1 0 (.reg 0 0)).WellFormed := by decide

theorem witness_DecodedIsWellFormed :
    decode 0x01000001 = .instr (.sethi 0 1) ∧ decode 0x8343C000 = .instr (.rdasr 1 ⟨15, 0⟩) ∧
      decode 0x8143E000 = .instr (.rdasr 0 ⟨15, 0x2000⟩) := by decide

theorem witness_StepRunsDecoded :
    let s := data.withFetchWord 32 0x86004002
    Fetches s 0x86004002 ∧ IsWordOf s 0x86004002 (.add 3 1 (.reg 2)) ∧
      (Instr.add 3 1 (.reg 2)).mnemonic ∉ s.cfg.unimplemented := by
  refine ⟨⟨⟨?_, ?_, ?_, ?_, ?_⟩, ?_, 0x1000, ?_, bytesAt_sound _ _ _ _ ?_⟩, ⟨?_, ?_, ?_⟩, ?_⟩ <;> decide +kernel

/-- An unimplemented RDASR of a privileged register and one of an unprivileged one: privileged_instruction comes first in user
mode (60 R474, R491). -/
theorem test_unimplemented_rdasr :
    let s := { base with cfg := { base.cfg with unimplemented := ["RDASR"], asrs := [⟨17, true⟩, ⟨18, false⟩] } }
    runs 0x83444000 (s |> sup 0) (fun t => t.tbr.tt == 0x03) = true ∧ runs 0x83444000 s (fun t => t.tbr.tt == 0x02) = true ∧
      runs 0x83448000 (s |> sup 0) (fun t => t.tbr.tt == 0x02) = true := by
  decide +kernel

/-- TN ignores r[rs1] and its second operand (47 R357): `tn %g1 + %g2` advances where the oracle answers for r[1], on which
`ta %g1 + %g2` takes r_register_access_error (60 R471; log 36). -/
theorem test_tn_reads_no_register :
    let b := { base with cfg := { base.cfg with memFaults := [⟨.register, 0x09, 1, 1, none, none, .rRegisterAccessError⟩] } }
    runs 0x81D04002 b (fun t => t.pc == 0x1004 && t.npc == 0x1008) = true ∧
      runs 0x91D04002 b (fun t => t.tbr.tt == 0x20) = true := by
  decide +kernel

/-- A fetch the oracle answers, an unassigned word of each kind, a word with a register the oracle answers, and unimplemented
instructions, privileged ones in both modes. -/
theorem witness_FetchedWordsTrap :
    let u := { fpu with cfg := { fpu.cfg with unimplemented := ["SDIV", "FSQRTd", "WRPSR"] } }
    let v := { u with psr := { u.psr with s := false }, cfg := { u.cfg with unimplemented := ["WRPSR", "WRASR"], asrs := [⟨17, true⟩] } }
    let d := { base with cfg := { base.cfg with memFaults := [⟨.fetch, 0x09, 0, 0x1FFF, none, none, .instructionAccessError⟩] } }
    let b := { base with cfg := { base.cfg with memFaults := [⟨.register, 0x09, 1, 1, none, none, .rRegisterAccessError⟩] } }
    (BeforeFetch d ∧ d.locate .fetch d.instrAsi d.pc 4 d.fetchSupervisor = .trap .instructionAccessError) ∧
      (decode 0x00400000 = .unassigned ∧ decode 0x87A04002 = .unassignedFpop ∧ FpReady fpu [] ∧ fpu.psr.et = true ∧
        fpu.pending = []) ∧
      (decode 0x86004002 = .instr (.add 3 1 (.reg 2)) ∧
        (b.cfg.unusedBits = .refuse → unusedFieldSet 0x86004002 (.add 3 1 (.reg 2)) = false) ∧
        ∃ n ∈ sourceRegisters 0x86004002, b.registerTrap n ≠ none) ∧
      (IsWordOf u 0x86784002 (.sdiv 3 1 (.reg 2)) ∧ (Instr.sdiv 3 1 (.reg 2)).mnemonic ∈ u.cfg.unimplemented ∧
        (Instr.sdiv 3 1 (.reg 2)).fpop = false ∧ u.seenS = true) ∧
      (IsWordOf u 0x81884000 (.wrpsr 1 (.reg 0)) ∧ (Instr.wrpsr 1 (.reg 0)).mnemonic ∈ u.cfg.unimplemented ∧
        NeedsSupervisor u (.wrpsr 1 (.reg 0)) ∧ u.seenS = true) ∧
      (IsWordOf v 0x81884000 (.wrpsr 1 (.reg 0)) ∧ (Instr.wrpsr 1 (.reg 0)).mnemonic ∈ v.cfg.unimplemented ∧
        NeedsSupervisor v (.wrpsr 1 (.reg 0)) ∧ v.seenS = false) ∧
      (IsWordOf v 0xA3804000 (.wrasr 17 1 (.reg 0 0)) ∧ (Instr.wrasr 17 1 (.reg 0 0)).mnemonic ∈ v.cfg.unimplemented ∧
        NeedsSupervisor v (.wrasr 17 1 (.reg 0 0)) ∧ v.seenS = false) ∧
      (IsWordOf u 0x89A00542 (.fsqrtd 4 2) ∧ (Instr.fsqrtd 4 2).mnemonic ∈ u.cfg.unimplemented ∧
        (Instr.fsqrtd 4 2).fpop = true ∧ FpReady u [] ∧ u.psr.et = true ∧ u.pending = []) := by
  refine ⟨⟨⟨?_, ?_, ?_, ?_, ?_⟩, ?_⟩, ⟨?_, ?_, fpReady_sound _ _ ?_, ?_, ?_⟩, ⟨?_, ?_, 1, ?_, ?_⟩, ⟨⟨?_, ?_, ?_⟩, ?_, ?_, ?_⟩,
    ⟨⟨?_, ?_, ?_⟩, ?_, .inl ?_, ?_⟩, ⟨⟨?_, ?_, ?_⟩, ?_, .inl ?_, ?_⟩,
    ⟨⟨?_, ?_, ?_⟩, ?_, .inr ⟨17, ⟨17, true⟩, .inr ⟨1, _, rfl⟩, ?_, ?_, ?_⟩, ?_⟩,
    ⟨⟨?_, ?_, ?_⟩, ?_, ?_, fpReady_sound _ _ ?_, ?_, ?_⟩⟩ <;> decide +kernel

theorem witness_StepResets : { base with resetReq := true, errorMode := true }.resetReq = true := rfl

/-- In error_mode; and a state whose step enters it: traps disabled, a taken Ticc. -/
theorem witness_ErrorMode :
    ({ base with errorMode := true } : State).resetReq = false ∧ (base |> et 0).pending = [] ∧
      (base |> et 0).errorMode = false ∧ runs 0x91D02005 (base |> et 0) (fun t => t.errorMode) = true := by
  decide +kernel

/-- The level just above PIL, level 15 at PIL 15, and with an annulled instruction at PC; a store failure with traps enabled and
disabled. -/
theorem witness_AsynchronousTraps :
    (∀ s ∈ [base |> pil 2 |> irl 3, base |> pil 15 |> irl 15, { (base |> irl 1) with annul := true }],
      s.resetReq = false ∧ s.errorMode = false ∧ s.storeError = false ∧ s.pending = [] ∧ s.interruptTaken = true) ∧
    ((base |> pil 3 |> irl 3).pending = [] ∧ (base |> pil 3 |> irl 3).interruptTaken = false) ∧
    ∀ s ∈ [{ base with storeError := true }, { (base |> et 0) with storeError := true, annul := true }],
      s.resetReq = false ∧ s.errorMode = false ∧ s.storeError = true ∧
        (s.psr.et = true ∧ s.pending = [] ∨ s.seenEt = false) := by
  decide +kernel

theorem witness_AnnulledIsSkipped :
    let s := { base with annul := true }
    s.resetReq = false ∧ s.errorMode = false ∧ s.storeError = false ∧ s.interruptTaken = false ∧ s.annul = true := by
  decide +kernel

theorem witness_TrapTaken :
    base.psr.et = true ∧ base.pending = [] ∧ State.reset.seenEt = false ∧ (Trap.fpException, 0x08) ∈ trapCodes := by
  decide +kernel

/-- Open windows of every register, one of a WRPSR among them that an earlier trap met. -/
theorem witness_TrapInWriteWindow :
    (∀ s ∈ [opened, { opened with
        pending := opened.pending ++ [⟨.wim, 3, 0xFFFFFFFF, 0, false, 0⟩, ⟨.tbr, 1, 0xFFFFF000, 0, false, 0⟩,
          ⟨.y, 2, 1, 0, true, 1⟩, ⟨.psr, 1, 0x1F, 0, true, 0⟩] }],
      s.seenEt = true ∧ s.pending ≠ [] ∧ s.inWindow .psr = true) := by
  decide +kernel

theorem witness_WindowOverlap :
    (7 : BitVec 5).toNat < base.nWindows ∧ (31 : RegNum).toNat ≥ 24 ∧ 16 ≤ (23 : RegNum).toNat ∧
      (23 : RegNum).toNat < 24 ∧ sameReg base 7 23 7 23 = true ∧ (7 : RegNum).toNat < 8 := by
  decide +kernel

theorem witness_CanonicalMemory :
    (data.mem).wf = true ∧ (∀ k, data.mem.read1 k = data.mem.read1 k) ∧ data.mem ≠ [] :=
  ⟨by decide +kernel, fun _ => rfl, by decide +kernel⟩

/-- A tag overflow and none. -/
theorem witness_TaggedResults :
    Sum.add.tagOverflow ((base |> r 1 8 |> r 2 5).readR 1) ((base |> r 1 8 |> r 2 5).op2val (.reg 2)) = true ∧
      Sum.add.tagOverflow ((base |> r 1 8 |> r 2 4).readR 1) ((base |> r 1 8 |> r 2 4).op2val (.reg 2)) = false := by
  decide +kernel

theorem witness_DivideResults : base.op2val (.imm 0) = 0 ∧ base.op2val (.imm 2) ≠ 0 := by decide +kernel

/-- The new window of SAVE from window 0 is 7, of RESTORE 1: marked, and not. -/
theorem witness_WindowMoves :
    (base |> wim 0x80).seenWim.getLsbD 7 = true ∧ (base |> wim 0x82).seenWim.getLsbD 1 = true ∧
      base.seenWim.getLsbD 7 = false ∧ base.inWindow .psr = false ∧ base.nWindows = 8 ∧ base.seenCwp = 0 := by
  decide +kernel

theorem witness_IccBranches : base.annul = false := rfl

/-- Right after an FPop2, within three instructions of an LDFSR, and neither; an FPU with an empty queue; the coprocessor. -/
theorem witness_UnitBranches :
    (∀ s ∈ [fpu, { fpu with afterFpop2 := true }, { fpu with ldfsrLeft := 3 }, queued fpu],
      s.annul = false ∧ s.seenEf = true ∧ s.cfg.fpuPresent = true ∧ FpQuiet s) ∧
    cop.annul = false ∧ cop.seenEc = true ∧ cop.cfg.cpPresent = true ∧ cop.cpExc = false := by
  unfold FpQuiet
  decide +kernel

theorem witness_LinkedTransfers :
    (data.effectiveAddress 1 (.imm 4)).toNat % 4 = 0 ∧ (data.effectiveAddress 1 (.imm 2)).toNat % 4 ≠ 0 := by
  decide +kernel

/-- A WRY, a trap, and in its handler, left open for three and then two instructions, an RDY, a RETT: what a read state register
instruction finds of the window (48 R392, statements 2 and 6). -/
theorem test_handler_window :
    let s := base.trap .tagOverflow
    let w := { base with pending := [{ reg := .y, left := 3, changed := 1, old := 0 }] }.trap .tagOverflow
    s.settled.inWindow .y = false ∧ w.inWindow .y = true ∧ w.settled.inWindow .y = false ∧
      (w.returnFromTrap 0x1000).settled.inWindow .y = true := by
  decide +kernel

/-- The five rows of 47 R353, and the return; a window met by one trap. -/
theorem witness_ReturnFromTrap :
    base.seenEt = true ∧ base.seenS = true ∧ (base |> sup 0).seenS = false ∧
      (base |> et 0 |> sup 0).seenEt = false ∧ (base |> et 0 |> sup 0).seenS = false ∧
      (base |> et 0 |> wim 2).seenWim.getLsbD 1 = true ∧
      ((data |> et 0).effectiveAddress 1 (.imm 2)).toNat % 4 ≠ 0 ∧
      (data |> et 0).seenEt = false ∧ (data |> et 0).seenS = true ∧ (data |> et 0).seenWim.getLsbD 1 = false ∧
      ((data |> et 0).effectiveAddress 1 (.imm 0)).toNat % 4 = 0 ∧ (data |> et 0).inWindow .psr = false ∧
      (let w : State := { (data |> et 0) with pending := [⟨.y, 2, 1, 0, true, 1⟩] }
       w.seenEt = false ∧ w.seenS = true ∧ w.seenWim.getLsbD 1 = false ∧
        (w.effectiveAddress 1 (.imm 0)).toNat % 4 = 0 ∧ w.pending.all (fun p => decide (p.handlers ≤ 1)) = true) := by
  decide +kernel

theorem witness_StateRegistersRead : base.seenS = true := by decide +kernel

/-- The last legal CWP and the first illegal one. -/
theorem witness_StateRegistersWritten :
    base.seenS = true ∧ (base.readR 0 ^^^ base.op2val (.imm 0xE7)).toNat % 32 < base.nWindows ∧
      ¬ (base.readR 0 ^^^ base.op2val (.imm 0xE8)).toNat % 32 < base.nWindows := by
  decide +kernel

theorem witness_WrittenIsReadLater :
    base.pending = [] ∧ base.psr.s = true ∧ (base.readR 0 ^^^ base.op2val (.imm 0xE7)).toNat % 32 < base.nWindows ∧
      (base.readR 0 ^^^ base.op2val (.imm 0xE7)).getLsbD 7 = true := by
  decide +kernel

/-- Reserved, unimplemented, unprivileged and privileged registers. -/
theorem witness_AncillaryRegisters :
    let s := { (base |> sup 0) with cfg := { base.cfg with asrs := [⟨17, false⟩, ⟨18, true⟩] } }
    (15 : RegNum).toNat < 16 ∧ 16 ≤ (16 : RegNum).toNat ∧ s.cfg.asrs.find? (fun a => a.num == 16) = none ∧
      s.cfg.asrs.find? (fun a => a.num == 17) = some ⟨17, false⟩ ∧
      s.cfg.asrs.find? (fun a => a.num == 18) = some ⟨18, true⟩ ∧ s.seenS = false := by
  decide +kernel

/-- A stale copy of the doubleword a FLUSH names. -/
theorem witness_BarrierUnimpFlush :
    let s := { data with
      cfg := { data.cfg with ibufPresent := true }, ibuf := [{ key := 0x2000, old := [], flushLeft := none }] }
    s.cfg.flushMode = .executes ∧ s.pending = [] ∧ s.fetchDoubt = false ∧
      s.bankOf (if s.psr.s then 0x09 else 0x08) = some 0 ∧ Memory.key 0 (s.effectiveAddress 1 (.imm 4)) / 8 * 8 = 0x2000 := by
  decide +kernel

/-- A byte, a halfword and a word, in the data space and in a named one. -/
theorem witness_IntegerLoads :
    ∀ e ∈ [(1, 0x80), (2, 0x8091), (4, 0x8091A2B3)],
      e.2 < 256 ^ e.1 ∧ BytesAt data.mem 0x2000 e.1 e.2 ∧ (data.effectiveAddress 1 (.imm 0)).toNat % e.1 = 0 ∧
        data.locate .read data.dataAsi (data.effectiveAddress 1 (.imm 0)) e.1 data.seenS = .found 0x2000 ∧
        data.seenS = true ∧ (data.readR 1 + data.readR 0).toNat % e.1 = 0 ∧
        data.locate .read 0x0A (data.readR 1 + data.readR 0) e.1 data.seenS = .found 0x2000 := by
  have h : ∀ e ∈ [(1, 0x80), (2, 0x8091), (4, 0x8091A2B3)],
      e.2 < 256 ^ e.1 ∧ bytesAt data.mem 0x2000 e.1 e.2 = true ∧ (data.effectiveAddress 1 (.imm 0)).toNat % e.1 = 0 ∧
        data.locate .read data.dataAsi (data.effectiveAddress 1 (.imm 0)) e.1 data.seenS = .found 0x2000 ∧
        data.seenS = true ∧ (data.readR 1 + data.readR 0).toNat % e.1 = 0 ∧
        data.locate .read 0x0A (data.readR 1 + data.readR 0) e.1 data.seenS = .found 0x2000 := by decide +kernel
  exact fun e he => ⟨(h e he).1, bytesAt_sound _ _ _ _ (h e he).2.1, (h e he).2.2⟩

/-- An odd rd that traps; an even one with its accesses. -/
theorem witness_DoubleLoadsStores :
    (data.cfg.oddRdTraps = true ∧ (3 : RegNum).toNat % 2 = 1) ∧ ¬ (data.cfg.oddRdTraps = true ∧ (2 : RegNum).toNat % 2 = 1) ∧
      (data.effectiveAddress 1 (.imm 0)).toNat % 8 = 0 ∧ (data.readR 1 + data.readR 0).toNat % 8 = 0 ∧
      data.locate .read data.dataAsi (data.effectiveAddress 1 (.imm 0)) 8 data.seenS = .found 0x2000 ∧
      data.locate .read 0x0B (data.readR 1 + data.readR 0) 8 data.seenS = .found 0x2000 ∧
      data.locate .write data.dataAsi (data.effectiveAddress 1 (.imm 0)) 8 data.seenS = .found 0x2000 ∧
      data.locate .write 0x0B (data.readR 1 + data.readR 0) 8 data.seenS = .found 0x2000 ∧ data.seenS = true ∧
      BytesAt data.mem 0x2000 8 0x8091A2B3C4D5E6F7 := by
  refine ⟨?_, ?_, ?_, ?_, ?_, ?_, ?_, ?_, ?_, bytesAt_sound _ _ _ _ ?_⟩ <;> decide +kernel

theorem witness_IntegerStores :
    ∀ n ∈ [1, 2, 4], (data.effectiveAddress 1 (.imm 4)).toNat % n = 0 ∧
      data.locate .write data.dataAsi (data.effectiveAddress 1 (.imm 4)) n data.seenS = .found 0x2004 ∧
      data.seenS = true ∧ (data.readR 1 + data.readR 0).toNat % n = 0 ∧
      data.locate .write 0x0A (data.readR 1 + data.readR 0) n data.seenS = .found 0x2000 := by
  decide +kernel

theorem witness_AtomicExchanges :
    data.locate .atomic data.dataAsi (data.effectiveAddress 1 (.imm 0)) 1 data.seenS = .found 0x2000 ∧
      BytesAt data.mem 0x2000 1 0x80 ∧ 0x80 < 256 ∧ (data.effectiveAddress 1 (.imm 0)).toNat % 4 = 0 ∧
      data.locate .atomic data.dataAsi (data.effectiveAddress 1 (.imm 0)) 4 data.seenS = .found 0x2000 ∧
      BytesAt data.mem 0x2000 4 0x8091A2B3 ∧ data.seenS = true ∧
      data.locate .atomic 0x0B (data.readR 1 + data.readR 0) 1 data.seenS = .found 0x2000 ∧
      (data.readR 1 + data.readR 0).toNat % 4 = 0 ∧
      data.locate .atomic 0x0B (data.readR 1 + data.readR 0) 4 data.seenS = .found 0x2000 := by
  refine ⟨?_, bytesAt_sound _ _ _ _ ?_, ?_, ?_, ?_, bytesAt_sound _ _ _ _ ?_, ?_, ?_, ?_, ?_⟩ <;> decide +kernel

/-- Accesses of every width and both forms that the oracle answers. -/
theorem witness_DataAccessTraps :
    let s := denied data
    Accesses s 2 1 (fun c => c.1 2 1 (.imm 0)) 0x0B 0x2000 ∧ Accesses s 2 1 (fun c => c.2 2 1 (.reg 0x0B 0)) 0x0B 0x2000 ∧
      (∀ n ∈ [1, 2, 4, 8], ∀ k ∈ [AccessKind.read, .write, .atomic],
        (0x2000 : Word).toNat % n = 0 ∧ s.locate k 0x0B 0x2000 n s.seenS = .trap .dataAccessException) ∧
      (s.cfg.oddRdTraps = true → (2 : RegNum).toNat % 2 = 0) := by
  refine ⟨.inl ⟨.imm 0, rfl, ?_, ?_⟩, .inr ⟨?_, 0, rfl, ?_⟩, ?_, ?_⟩ <;> decide +kernel

/-- The stores also on an FPU whose queue holds an entry, and none, with a trap deferred, that does not sequence them. -/
theorem witness_FpLoadsStores :
    (∀ s ∈ [{ queued fpu with fq := [7] }, { queued fpu with fpPending := some 1 }],
      s.seenEf = true ∧ s.cfg.fpuPresent = true ∧ s.cfg.fpStoresSequenced = false ∧ ¬ FpQuiet s ∧
        (s.effectiveAddress 1 (.imm 0)).toNat % 8 = 0 ∧
        ∀ n ∈ [4, 8], s.locate .write s.dataAsi (s.effectiveAddress 1 (.imm 0)) n s.seenS = .found 0x2000) ∧
    fpu.seenEf = true ∧ fpu.cfg.fpuPresent = true ∧ FpQuiet fpu ∧
      (fpu.effectiveAddress 1 (.imm 0)).toNat % 8 = 0 ∧ (fpu.cfg.fregAlignTraps = true → (2 : RegNum).toNat % 2 = 0) ∧
      fpu.locate .read fpu.dataAsi (fpu.effectiveAddress 1 (.imm 0)) 4 fpu.seenS = .found 0x2000 ∧
      BytesAt fpu.mem 0x2000 4 0x8091A2B3 ∧
      fpu.locate .write fpu.dataAsi (fpu.effectiveAddress 1 (.imm 0)) 4 fpu.seenS = .found 0x2000 ∧
      fpu.locate .read fpu.dataAsi (fpu.effectiveAddress 1 (.imm 0)) 8 fpu.seenS = .found 0x2000 ∧
      BytesAt fpu.mem 0x2000 8 0x8091A2B3C4D5E6F7 ∧
      fpu.locate .write fpu.dataAsi (fpu.effectiveAddress 1 (.imm 0)) 8 fpu.seenS = .found 0x2000 := by
  unfold FpQuiet
  refine ⟨?_, ?_, ?_, ?_, ?_, ?_, ?_, bytesAt_sound _ _ _ _ ?_, ?_, ?_, bytesAt_sound _ _ _ _ ?_, ?_⟩ <;> decide +kernel

/-- No queue, an empty one, and one with an entry. -/
theorem witness_QueueStore :
    let q := { fpu with cfg := { fpu.cfg with fqPresent := true }, fq := [0x1122334455667788] }
    fpu.seenS = true ∧ fpu.seenEf = true ∧ fpu.cfg.fpuPresent = true ∧
      (fpu.effectiveAddress 1 (.imm 0)).toNat % 8 = 0 ∧ (fpu.cfg.fqPresent = false ∨ fpu.fq = []) ∧ fpu.psr.et = true ∧
      fpu.pending = [] ∧ q.seenS = true ∧ q.seenEf = true ∧ q.cfg.fpuPresent = true ∧
      (q.effectiveAddress 1 (.imm 0)).toNat % 8 = 0 ∧ q.cfg.fqPresent = true ∧ q.fq = [0x1122334455667788] ∧
      q.locate .write q.dataAsi (q.effectiveAddress 1 (.imm 0)) 8 q.seenS = .found 0x2000 := by
  decide +kernel

theorem witness_CpLoadsStores :
    cop.seenEc = true ∧ cop.cfg.cpPresent = true ∧ cop.cpExc = false ∧ (cop.effectiveAddress 1 (.imm 0)).toNat % 8 = 0 ∧
      cop.locate .read cop.dataAsi (cop.effectiveAddress 1 (.imm 0)) 4 cop.seenS = .found 0x2000 ∧
      BytesAt cop.mem 0x2000 4 0x8091A2B3 ∧
      cop.locate .write cop.dataAsi (cop.effectiveAddress 1 (.imm 0)) 4 cop.seenS = .found 0x2000 ∧
      cop.locate .read cop.dataAsi (cop.effectiveAddress 1 (.imm 0)) 8 cop.seenS = .found 0x2000 ∧
      BytesAt cop.mem 0x2000 8 0x8091A2B3C4D5E6F7 ∧
      cop.locate .write cop.dataAsi (cop.effectiveAddress 1 (.imm 0)) 8 cop.seenS = .found 0x2000 ∧ cop.seenS = true ∧
      cop.cfg.cqPresent = true ∧ cop.cp.cq = [0x1122334455667788] ∧
      let e := { cop with cp := { cop.cp with cq := [] } }
      e.seenEc = true ∧ e.cfg.cpPresent = true ∧ e.cpExc = false ∧ (e.effectiveAddress 1 (.imm 0)).toNat % 8 = 0 ∧
        e.locate .write e.dataAsi (e.effectiveAddress 1 (.imm 0)) 8 e.seenS = .found 0x2000 ∧ e.seenS = true ∧
        e.cfg.cqPresent = true ∧ e.cp.cq = [] := by
  refine ⟨?_, ?_, ?_, ?_, ?_, bytesAt_sound _ _ _ _ ?_, ?_, ?_, bytesAt_sound _ _ _ _ ?_, ?_, ?_, ?_, ?_, ?_⟩
    <;> decide +kernel

/-- The same of the units: an FPU without and with a queue, the coprocessor with one. -/
theorem witness_UnitAccessTraps :
    let q := { denied fpu with cfg := { (denied fpu).cfg with fqPresent := true }, fq := [7] }
    (∀ s ∈ [denied fpu, q, denied cop], ∀ n ∈ [4, 8], ∀ k ∈ [AccessKind.read, .write],
      (s.effectiveAddress 1 (.imm 0)).toNat % n = 0 ∧
        s.locate k s.dataAsi (s.effectiveAddress 1 (.imm 0)) n s.seenS = .trap .dataAccessException) ∧
    ((denied fpu).seenEf = true ∧ (denied fpu).cfg.fpuPresent = true ∧ FpQuiet (denied fpu) ∧
      ((denied fpu).cfg.fregAlignTraps = true → (2 : RegNum).toNat % 2 = 0)) ∧
    (q.seenS = true ∧ q.seenEf = true ∧ q.cfg.fpuPresent = true ∧ q.cfg.fqPresent = true ∧ q.fq ≠ []) ∧
    ((denied cop).seenEc = true ∧ (denied cop).cfg.cpPresent = true ∧ (denied cop).cpExc = false ∧
      (denied cop).seenS = true ∧ (denied cop).cfg.cqPresent = true) := by
  unfold FpQuiet
  decide +kernel

/-- 1 + 2, exact; 9 to a square root, exact; the maxima, overflowing with every trap masked. -/
theorem witness_FpResults :
    let s := fpu |> f 1 0x3F800000 |> f 2 0x40000000
    FpReady fpu [] ∧
    FpReady s [(.double, 2), (.double, 4)] ∧ s.fsr.ns = false ∧
      (fpSqrt (Prec.format .double) (fpu |> fd 2 0x4022000000000000).fpEnv 0x4022000000000000).exc &&& s.fsr.tem = 0 ∧
      FpReady s [(.single, 1), (.single, 2), (.single, 3)] ∧
      (fpAdd (Prec.format .single) s.fpEnv (s.readFp .single 1) (s.readFp .single 2)).exc &&& s.fsr.tem = 0 ∧
      s.fsr.tem = 0 := by
  refine ⟨fpReady_sound _ _ ?_, fpReady_sound _ _ ?_, ?_, ?_, fpReady_sound _ _ ?_, ?_, ?_⟩ <;> decide +kernel

/-- A quiet NaN with the invalid trap enabled raises nothing in FCMPs. -/
theorem witness_FpCompares :
    let s := fpu |> f 1 0x7FC00000 |> f 2 0x3F800000 |> tem 0x10
    FpReady s [(.single, 1), (.single, 2)] ∧ s.fsr.ns = false ∧
      (fpCompare (Prec.format .single) false (s.readFp .single 1) (s.readFp .single 2)).2 &&& s.fsr.tem = 0 ∧
      fpu.fsr.tem = 0 := by
  refine ⟨fpReady_sound _ _ ?_, ?_, ?_, ?_⟩ <;> decide +kernel

/-- 1 / 0 with the division trap enabled; the square root of -1 and a compare of a signaling NaN with the invalid trap enabled,
on an FPU with an empty queue too; odd register numbers. -/
theorem witness_FpExceptions :
    let s := fpu |> f 1 0x3F800000 |> tem 0x12 |> f 4 0xBF800000 |> f 5 0x7F800001
    (∀ u ∈ [s, queued s],
      fpReady u [(.single, 1), (.single, 2), (.single, 3)] = true ∧ u.fsr.ns = false ∧ u.psr.et = true ∧ u.pending = [] ∧
        (fpDiv (Prec.format .single) u.fpEnv (u.readFp .single 1) (u.readFp .single 2)).exc &&& u.fsr.tem ≠ 0 ∧
        (fpSqrt (Prec.format .single) u.fpEnv (u.readFp .single 4)).exc &&& u.fsr.tem ≠ 0 ∧
        (fpCompare (Prec.format .single) false (u.readFp .single 1) (u.readFp .single 5)).2 &&& u.fsr.tem ≠ 0) ∧
    Misnumbered s [(.double, 2), (.double, 4), (.double, 7)] ∧ Misnumbered s [(.quad, 2), (.single, 4)] ∧
    Misnumbered s [(.double, 1), (.double, 4)] ∧
    s.seenEf = true ∧ s.cfg.fpuPresent = true ∧ FpQuiet s ∧ (s.effectiveAddress 1 (.imm 0)).toNat % 8 = 0 ∧
    s.cfg.fregAlignTraps = true ∧ (3 : RegNum).toNat % 2 = 1 ∧ s.psr.et = true ∧ s.pending = [] := by
  unfold FpQuiet
  refine ⟨?_, ⟨fpReady_sound _ _ ?_, ?_, ?_, ?_, ?_⟩, ⟨fpReady_sound _ _ ?_, ?_, ?_, ?_, ?_⟩,
    ⟨fpReady_sound _ _ ?_, ?_, ?_, ?_, ?_⟩, ?_, ?_, ?_, ?_, ?_, ?_, ?_, ?_⟩ <;> decide +kernel

theorem witness_CpOperations : cop.seenEc = true ∧ cop.cfg.cpPresent = true ∧ cop.cpExc = false := by decide +kernel

/-- A coprocessor that signals; one without a queue, of either choice; a deferred trap; a queue with an entry, where stores are sequenced too. -/
theorem witness_PendingUnitTraps :
    let c := { cop with cpExc := true }
    let n := { cop with cfg := { cop.cfg with cqPresent := false } }
    let m := { base with cfg := { base.cfg with cpPresent := true, cqPresent := false, stdcqNoQueue := .illegalInstruction } }
    let d := { queued fpu with fpPending := some 1, fq := [7] }
    let q := { queued fpu with cfg := { (queued fpu).cfg with fpStoresSequenced := true }, fq := [7] }
    (c.psr.et = true ∧ c.pending = [] ∧ c.seenEc = true ∧ c.cfg.cpPresent = true ∧ c.cpExc = true ∧
      IsCpBranchOrOp (.cpop1 1 2 3 4) ∧ IsCpBranchOrOp (.cb3 true 5) ∧ c.seenS = true ∧ StdcqLegal c ∧
      (c.effectiveAddress 1 (.imm 0)).toNat % 8 = 0) ∧
    (n.psr.et = true ∧ n.pending = [] ∧ n.seenS = true ∧ n.seenEc = true ∧ n.cfg.cpPresent = true ∧
      n.cfg.cqPresent = false ∧ n.cfg.stdcqNoQueue = .cpException ∧ (n.effectiveAddress 1 (.imm 0)).toNat % 8 = 0) ∧
    (m.seenS = true ∧ m.cfg.cpPresent = true ∧ m.cfg.cqPresent = false ∧ m.cfg.stdcqNoQueue = .illegalInstruction ∧
      m.seenEc = false) ∧
    (d.psr.et = true ∧ d.pending = [] ∧ d.seenEf = true ∧ d.cfg.fpuPresent = true ∧ d.cfg.fqPresent = true ∧
      d.fpPending = some 1 ∧ IsFpBranchOrOp (.fmovs 1 2) ∧ IsFpBranchOrOp (.fba true 5)) ∧
    (q.psr.et = true ∧ q.pending = [] ∧ q.seenEf = true ∧ q.cfg.fpuPresent = true ∧ q.cfg.fqPresent = true ∧
      q.fpPending = none ∧ q.fq ≠ [] ∧ q.cfg.fpStoresSequenced = true ∧ ¬ FpQuiet q ∧
      (q.effectiveAddress 1 (.imm 0)).toNat % 8 = 0) := by
  unfold FpQuiet
  refine ⟨⟨?_, ?_, ?_, ?_, ?_, .inl ⟨1, 2, 3, 4, .inl rfl⟩, .inr ⟨_, .tail _ (.tail _ (.head _)), true, 5, rfl⟩, ?_, .inr (.inl ?_), ?_⟩,
    ⟨?_, ?_, ?_, ?_, ?_, ?_, ?_, ?_⟩, ⟨?_, ?_, ?_, ?_, ?_⟩, ⟨?_, ?_, ?_, ?_, ?_, ?_, .inl ?_, .inr ⟨_, .head _, true, 5, rfl⟩⟩,
    ⟨?_, ?_, ?_, ?_, ?_, ?_, ?_, ?_, ?_, ?_⟩⟩ <;> decide +kernel

/-- The least positive single and -1: every clause about numbers, the root of the first and the quotient by the second among
them; 2^31, which is no 32-bit integer; then zeros, infinities, a quiet and a signaling NaN. -/
theorem witness_FpValues :
    let f := Prec.format .single
    (f.unpack 0 = .finite false 0 (-149) ∧ f.unpack 0x80000000 = .finite true 0 (-149) ∧
      f.unpack 0x80000001 = .finite true 1 (-149) ∧ f.unpack 0x4F000000 = .finite false (2 ^ 23) 8 ∧
      f.unpack 0x7F800000 = .inf false ∧ f.unpack 0xFF800000 = .inf true ∧ f.unpack 0x7F800001 = .nan true 0x7F800001 ∧
      f.unpack 0xFFC00000 = .nan false 0xFFC00000 ∧ (f.unpack 0xFFC00000).isNan = true ∧
      (f.unpack 0xFF800000).isNan = false) ∧
    ratValue (Format.unpack (Prec.format .single) 1) = some ((2 : ℚ) ^ (-149 : Int)) ∧
      ratValue (Format.unpack (Prec.format .single) 0xBF800000) = some (-1) ∧ (-1 : ℚ) ≠ 0 ∧
      (0 : ℚ) ≤ (2 : ℚ) ^ (-149 : Int) := by
  have h1 : Format.unpack (Prec.format .single) 1 = .finite false 1 (-149) := by decide +kernel
  have h2 : Format.unpack (Prec.format .single) 0xBF800000 = .finite true 8388608 (-23) := by decide +kernel
  rw [h1, h2]
  refine ⟨by decide +kernel, by simp [ratValue], by norm_num [ratValue], by norm_num, by positivity⟩

/-- 2^25 exactly, and a number between it and 2^25 + 1. -/
theorem witness_RoundingIsCorrect :
    ∀ sticky : Bool, ∃ x : ℝ,
      if sticky then
        2 ^ ((Prec.format .single).fbits + 1) ≤ 33554432 ∧ ((33554432 : Nat) : ℝ) * (2 : ℝ) ^ (0 : Int) < x ∧
          x < (((33554432 : Nat) : ℝ) + 1) * (2 : ℝ) ^ (0 : Int)
      else x = ((33554432 : Nat) : ℝ) * (2 : ℝ) ^ (0 : Int)
  | false => ⟨_, rfl⟩
  | true => ⟨33554432.5, by decide, by norm_num, by norm_num⟩

theorem witness_PrivilegedInUserMode : (Instr.rett 1 (.imm 0)).privileged = true ∧ (base |> sup 0).seenS = false := by
  decide +kernel

theorem witness_DisabledUnits :
    (Instr.stdfq 0 1 (.imm 0)).usesFpu = true ∧ base.seenEf = false ∧ (Instr.stdfq 0 1 (.imm 0)).privileged = true ∧
      base.seenS = true ∧ (Instr.cpop1 0 0 0 0).usesCp = true ∧ base.cfg.cpPresent = false ∧
      (Instr.stdcq 0 1 (.imm 0)).privileged = true ∧ StdcqLegal base :=
  ⟨by decide +kernel, by decide +kernel, by decide +kernel, by decide +kernel, by decide +kernel, by decide +kernel,
    by decide +kernel, .inl (by decide +kernel)⟩

theorem witness_AccessChecksTrap :
    (data.effectiveAddress 1 (.imm 4)).toNat % 8 ≠ 0 ∧ (data.effectiveAddress 1 (.imm 1)).toNat % 2 ≠ 0 ∧
      (data.cfg.oddRdTraps = true → (2 : RegNum).toNat % 2 = 0) ∧
      ((data |> r 2 2).readR 1 + (data |> r 2 2).readR 2).toNat % 4 ≠ 0 ∧ (data |> r 2 2).seenS = true ∧
      fpu.seenEf = true ∧ fpu.cfg.fpuPresent = true ∧ fpu.seenS = true ∧
      (fpu.effectiveAddress 1 (.imm 4)).toNat % 8 ≠ 0 ∧ cop.seenEc = true ∧ cop.cfg.cpPresent = true ∧
      cop.seenS = true ∧ StdcqLegal cop ∧ (cop.effectiveAddress 1 (.imm 4)).toNat % 8 ≠ 0 := by
  refine ⟨?_, ?_, ?_, ?_, ?_, ?_, ?_, ?_, ?_, ?_, ?_, ?_, .inr (.inl ?_), ?_⟩ <;> decide +kernel

/-- An instruction that writes nothing, and one that stores. -/
theorem witness_OnlyWriters :
    (∃ t, exec .nop base = .next t) ∧ (Instr.nop).writesIcc = false ∧ (Instr.nop).writesY = false ∧
      (Instr.nop).isWrwim = false ∧ (Instr.nop).isWrtbr = false ∧ (Instr.nop).isWrpsr = false ∧
      (Instr.nop).writesF = false ∧ (Instr.nop).writesMemory = false :=
  ⟨⟨_, rfl⟩, rfl, rfl, rfl, rfl, rfl, rfl, rfl⟩

/-- A user program's Ticc, and its NOP, right after a WRY. -/
theorem witness_UserModeConfined :
    let s := { (base |> sup 0) with pending := [{ reg := .y, left := 3, changed := 1, old := 0, handled := false }] }
    PrivilegedSettled s ∧ s.psr.s = false ∧ s.resetReq = false ∧
      runs 0x91D02005 s (fun t => t.psr.s && t.pc == 0x850) = true ∧ runs 0x01000000 s (fun t => !t.psr.s) = true := by
  unfold PrivilegedSettled
  decide +kernel

end Sys2Proof.Tests
end

section
/-! The operand forms as arithmetic on numbers: one lemma for each form of a second operand, an effective address, a shift
count and a trap number, and from them the statement about all of them. -/

namespace Sys2Proof.Machine

variable (s : State)

/-! ### Second operands and effective addresses (00_scope R13) -/

theorem State.op2val_reg (n : RegNum) : s.op2val (.reg n) = s.readR n := rfl

/-- Thirteen bits fit in a word, so that the sign-extended immediate keeps its value as a signed number. -/
theorem State.op2val_imm_toInt (i : BitVec 13) : (s.op2val (.imm i)).toInt = i.toInt :=
  BitVec.toInt_signExtend_of_le (by decide)

theorem State.effectiveAddress_toNat (n : RegNum) (o : Operand2) :
    (s.effectiveAddress n o).toNat = ((s.readR n).toNat + (s.op2val o).toNat) % 2 ^ 32 :=
  BitVec.toNat_add ..

/-! ### Shift counts (43 R225) -/

/-- Taking the low `k` bits of a bit vector is reducing its number modulo 2^k. -/
theorem toNat_lowBits {w : Nat} (k : Nat) (x : BitVec w) : (x.extractLsb' 0 k).toNat = x.toNat % 2 ^ k := by
  rw [BitVec.extractLsb'_toNat, Nat.shiftRight_zero]

theorem State.shiftCount_reg (n : RegNum) : s.shiftCount (.reg n) = (s.readR n).toNat % 32 :=
  toNat_lowBits 5 (s.readR n)

theorem State.shiftCount_imm (i : BitVec 5) : s.shiftCount (.imm i) = i.toNat := rfl

/-! ### Trap numbers (47 R354) -/

theorem State.trapOperand_reg (n : RegNum) : s.trapOperand (.reg n) = s.readR n := rfl

/-- The seven-bit immediate is zero-extended (D30). -/
theorem State.trapOperand_imm_toNat (i : BitVec 7) : (s.trapOperand (.imm i)).toNat = i.toNat :=
  BitVec.toNat_setWidth_of_le (by decide)

/-- The reduction of the sum modulo 2^32 does not show in its low seven bits. -/
theorem State.trapNumber_toNat (n : RegNum) (o : TrapOperand) :
    (s.trapNumber n o).toNat = ((s.readR n).toNat + (s.trapOperand o).toNat) % 128 :=
  calc (s.trapNumber n o).toNat
    _ = (s.readR n + s.trapOperand o).toNat % 2 ^ 7 := toNat_lowBits 7 _
    _ = ((s.readR n).toNat + (s.trapOperand o).toNat) % 2 ^ 32 % 2 ^ 7 := by rw [BitVec.toNat_add]
    _ = ((s.readR n).toNat + (s.trapOperand o).toNat) % 128 := Nat.mod_mod_of_dvd _ (by decide)

end Sys2Proof.Machine

/-- Settles O17: each part is the lemma about its operand form. -/
theorem Sys2Proof.operandForms : Obligations.OperandForms := by
  intro s
  refine ⟨s.op2val_reg, s.op2val_imm_toInt, s.effectiveAddress_toNat, s.shiftCount_reg, s.shiftCount_imm, ?_, ?_⟩
  · exact fun n m => s.trapOperand_reg m ▸ s.trapNumber_toNat n (.reg m)
  · exact fun n i => s.trapOperand_imm_toNat i ▸ s.trapNumber_toNat n (.imm i)
end

section
/-! One step up to the fetched word: the step of a state with an annulled instruction at PC, and, where nothing comes before
the fetch, the step as `exec` of the instruction whose word stands at PC. -/

namespace Sys2Proof.Machine

variable {s : State} {w : Word} {i : Instr}

/-! ### An annulled instruction (10_state R27, D5) -/

theorem step_of_annul (hreset : s.resetReq = false) (hrunning : s.errorMode = false) (hstored : s.storeError = false)
    (hquiet : s.interruptTaken = false) (hannul : s.annul = true) : step s = .next s.skip := by
  simp [step, hreset, hrunning, hstored, hquiet, hannul]

theorem State.skip_advanced (s : State) : Advanced s s.skip := ⟨rfl, rfl⟩

/-- Skipping counts as a step (`freeCount`) and writes the counters and the annul flag. -/
theorem State.skip_frame (s : State) : Frame [.counters, .annul, .clock] s s.skip := by
  intro p hp
  cases p
  case counters | annul | clock => simp at hp
  case fRegs => exact State.readF_congr s.skip_f
  all_goals simp [Part.same]

/-! ### The fetch (10_state R27, 20 R76) -/

theorem step_of_beforeFetch (h : BeforeFetch s) : step s = execFetched s.fetch s := by
  obtain ⟨hreset, hrunning, hstored, hquiet, hexecuted⟩ := h
  simp [step, hreset, hrunning, hstored, hquiet, hexecuted]

/-- With an empty instruction buffer a fetch reads memory itself (20 R88). -/
theorem State.fetchMemory_of_noCopy (h : s.ibuf = []) (k : Nat) : s.fetchMemory k = s.mem := by
  simp [State.fetchMemory, h]

theorem fetch_of_fetches (h : Fetches s w) : s.fetch = .word w := by
  obtain ⟨-, hcopy, k, hfound, hbytes⟩ := h
  have hread : (s.fetchMemory k).read4 k = some w := by
    rw [State.fetchMemory_of_noCopy hcopy, Memory.read4_of_bytesAt hbytes, BitVec.ofNat_toNat, BitVec.setWidth_eq]
  simp [State.fetch, hfound, hread]

theorem step_of_fetches (h : Fetches s w) : step s = execWord w s := by
  rw [step_of_beforeFetch h.first, fetch_of_fetches h, execFetched]

/-! ### The word of an instruction -/

theorem registerFault_eq_none_iff : s.registerFault w = none ↔ ∀ n ∈ sourceRegisters w, s.registerTrap n = none :=
  List.findSome?_eq_none_iff

theorem unimplementedInHardware_iff : unimplementedInHardware s i = true ↔ i.mnemonic ∈ s.cfg.unimplemented :=
  List.contains_iff_mem

/-- Past the unused fields (30 R120) and the register oracle (60 R471), only HW_UNIMPLEMENTED stands before `exec`. -/
theorem execWord_of_isWordOf (h : IsWordOf s w i) :
    execWord w s = if unimplementedInHardware s i then execUnimplemented i s else exec i s := by
  obtain ⟨hdecode, hunused, hregisters⟩ := h
  have haccepted : (s.cfg.unusedBits == .refuse && unusedFieldSet w i) = false := by simpa using hunused
  simp [execWord, hdecode, haccepted, registerFault_eq_none_iff.mpr hregisters]

end Sys2Proof.Machine

/-- Settles O12: the step is `State.skip`. -/
theorem Sys2Proof.annulledIsSkipped : Obligations.AnnulledIsSkipped := by
  intro s hreset hrunning hstored hquiet hannul
  exact ⟨s.skip, Machine.step_of_annul hreset hrunning hstored hquiet hannul, rfl, s.skip_advanced, s.skip_frame⟩

/-- Settles O7: the fetch answers the word, and no check stands between it and `exec` of its instruction. -/
theorem Sys2Proof.stepRunsDecoded : Obligations.StepRunsDecoded := by
  refine ⟨fun s w hf => Machine.step_of_fetches hf, fun s w i hf hw himplemented => ?_⟩
  rw [Machine.step_of_fetches hf, Machine.execWord_of_isWordOf hw,
    if_neg (mt Machine.unimplementedInHardware_iff.mp himplemented)]
end

section
/-! Window overlap: which cells of storage the registers of two windows share, from the number of a register's cell modulo the
sixteen cells a window adds. -/

namespace Sys2Proof.Machine

variable (s : State)

/-! ### Reading a global and a windowed register (10_state R22) -/

theorem State.readRW_global {n : RegNum} (h : n.toNat < 8) (w v : BitVec 5) : s.readRW w n = s.readRW v n := by
  simp [State.readRW, h]

theorem State.readRW_windowed {n : RegNum} (h : 8 ≤ n.toNat) (w : BitVec 5) :
    s.readRW w n = (s.win[s.cell w n]?).getD 0 := by
  have hzero : n ≠ 0 := by rintro rfl; simp at h
  rw [State.readRW, if_neg hzero, if_neg (by omega)]

/-! ### Cells (10_state R22, D4) -/

/-- The cells of the windows follow each other around the file in steps of 16, which the reduction modulo 16 * NWINDOWS
does not show in the remainder by 16. -/
theorem State.cell_mod (w : BitVec 5) (n : RegNum) : s.cell w n % 16 = (n.toNat - 8) % 16 := by
  rw [State.cell, Nat.mod_mul_right_mod, Nat.mul_add_mod]

/-- The outs and the locals of an implemented window lie in its own sixteen cells. -/
theorem State.cell_of_lt {w : BitVec 5} {n : RegNum} (hw : w.toNat < s.nWindows) (hn : n.toNat < 24) :
    s.cell w n = 16 * w.toNat + (n.toNat - 8) :=
  Nat.mod_eq_of_lt (by omega)

/-- An in is the out of the next window, 16 registers below it, around the last window too. -/
theorem State.cell_nextWindow (w : BitVec 5) {n : RegNum} (h : 24 ≤ n.toNat) :
    s.cell (s.nextWindow w) (n - 16) = s.cell w n := by
  have hout : (n - 16).toNat = n.toNat - 16 := BitVec.toNat_sub_of_le (BitVec.le_def.mpr (by simp; omega))
  calc s.cell (s.nextWindow w) (n - 16)
    _ = (16 * ((w.toNat + 1) % s.nWindows) + (n.toNat - 24)) % (16 * s.nWindows) := by
      rw [State.cell, s.nextWindow_toNat, hout, Nat.sub_sub]
    _ = (16 * (w.toNat + 1) + (n.toNat - 24)) % (16 * s.nWindows) := by
      rw [← Nat.mul_mod_mul_left, Nat.mod_add_mod]
    _ = s.cell w n := by rw [State.cell]; congr 1; omega

/-- A local's cell is the cell of no other register: its remainder by 16 gives the register, its quotient the window. -/
theorem State.cell_local_inj {w v : BitVec 5} {m n : RegNum} (hw : w.toNat < s.nWindows) (hv : v.toNat < s.nWindows)
    (hm : 16 ≤ m.toNat) (hm' : m.toNat < 24) (hn : 8 ≤ n.toNat) (h : s.cell w m = s.cell v n) : w = v ∧ m = n := by
  have hmod : (m.toNat - 8) % 16 = (n.toNat - 8) % 16 := by rw [← s.cell_mod w m, h, s.cell_mod]
  have hreg : m.toNat = n.toNat := by have := n.isLt; omega
  rw [s.cell_of_lt hw hm', s.cell_of_lt hv (by omega)] at h
  exact ⟨BitVec.eq_of_toNat_eq (by omega), BitVec.eq_of_toNat_eq hreg⟩

theorem State.readRW_ins_eq_outs (w : BitVec 5) {n : RegNum} (h : 24 ≤ n.toNat) :
    s.readRW w n = s.readRW (s.nextWindow w) (n - 16) := by
  have hout : 8 ≤ (n - 16).toNat := by bv_omega
  rw [s.readRW_windowed (by omega), s.readRW_windowed hout, s.cell_nextWindow w h]

/-- From r8 on, one register is one cell. -/
theorem cell_eq_of_sameReg {s : State} {w v : BitVec 5} {m n : RegNum} (hm : 8 ≤ m.toNat) (h : sameReg s w m v n = true) :
    8 ≤ n.toNat ∧ s.cell w m = s.cell v n := by
  have hglobal : ¬ m.toNat < 8 := by omega
  simp only [sameReg, hglobal, decide_false, Bool.false_and, Bool.false_or, Bool.and_eq_true, decide_eq_true_eq,
    beq_iff_eq] at h
  obtain ⟨-, ⟨-, hn⟩, hcell⟩ := h
  exact ⟨hn, hcell⟩

end Sys2Proof.Machine

/-- Settles O15: ins and outs by `State.cell_nextWindow`, locals by `State.cell_local_inj`. -/
theorem Sys2Proof.windowOverlap : Obligations.WindowOverlap := by
  intro s w hw
  refine ⟨fun n hn => s.readRW_ins_eq_outs w hn, fun v m n hv hm hm' hsame => ?_, fun v n hn => s.readRW_global hn w v⟩
  obtain ⟨hn, hcell⟩ := Machine.cell_eq_of_sameReg (by omega) hsame
  exact s.cell_local_inj hw hv hm hm' hn hcell
end

section
/-! Disabled units: each shared operation of the floating-point and the coprocessor instructions traps where its unit is
disabled, and which of these operations an instruction is. -/

namespace Sys2Proof.Machine

variable {s : State} {i : Instr}

/-! ### The shared operations with their unit disabled (10_state R31) -/

theorem State.fpEnabled_eq_false_iff : s.fpEnabled = false ↔ s.seenEf = false ∨ s.cfg.fpuPresent = false :=
  Bool.and_eq_false_iff

theorem State.cpEnabled_eq_false_iff : s.cpEnabled = false ↔ s.seenEc = false ∨ s.cfg.cpPresent = false :=
  Bool.and_eq_false_iff

theorem fpopReady_disabled {k : State → Out} (h : s.fpEnabled = false) : fpopReady k s = s.raise .fpDisabled := by
  simp [fpopReady, h]

theorem fpopChecks_disabled {regs : List (Prec × RegNum)} {k : State → Out} (h : s.fpEnabled = false) :
    fpopChecks regs k s = s.raise .fpDisabled :=
  fpopReady_disabled h

theorem fbfcc_disabled {k : State → State} {a : Bool} {disp22 : BitVec 22} (h : s.fpEnabled = false) :
    fbfcc k a disp22 s = s.raise .fpDisabled := by
  simp [fbfcc, h]

/-- Only the privilege check comes before fp_disabled (60 R474). -/
theorem fpAccess_disabled {privileged sequenced double : Bool} {n : Nat} {rd rs1 : RegNum} {operand : Operand2}
    {k : Asi → Word → State → Out} (hp : privileged = true → s.seenS = true) (h : s.fpEnabled = false) :
    fpAccess privileged sequenced double n rd rs1 operand k s = s.raise .fpDisabled := by
  have hallowed : (privileged && !s.seenS) = false := by simpa using hp
  simp [fpAccess, hallowed, h]

theorem cpop_disabled {k : State → Cp} (h : s.cpEnabled = false) : cpop k s = s.raise .cpDisabled := by
  simp [cpop, h]

theorem cbccc_disabled {k : State → State} (h : s.cpEnabled = false) : cbccc k s = s.raise .cpDisabled := by
  simp [cbccc, h]

/-- Only the privilege check comes before cp_disabled (60 R474). -/
theorem cpAccess_disabled {privileged : Bool} {n : Nat} {rs1 : RegNum} {operand : Operand2} {k : Asi → Word → State → Out}
    (hp : privileged = true → s.seenS = true) (h : s.cpEnabled = false) :
    cpAccess privileged n rs1 operand k s = s.raise .cpDisabled := by
  have hallowed : (privileged && !s.seenS) = false := by simpa using hp
  simp [cpAccess, hallowed, h]

/-! ### Which operation an instruction is -/

theorem fpConvertInt_checks (dst : Prec) (rd rs2 : RegNum) (s : State) :
    ∃ regs k, fpConvertInt dst rd rs2 s = fpopChecks regs k s := ⟨_, _, rfl⟩

theorem fpUnary_checks (src dst : Prec) (op : FpEnv → Nat → FpResult) (rd rs2 : RegNum) (s : State) :
    ∃ regs k, fpUnary src dst op rd rs2 s = fpopChecks regs k s := ⟨_, _, rfl⟩

theorem fpBinary_checks (src dst : Prec) (op : FpEnv → Nat → Nat → FpResult) (rd rs1 rs2 : RegNum) (s : State) :
    ∃ regs k, fpBinary src dst op rd rs1 rs2 s = fpopChecks regs k s := ⟨_, _, rfl⟩

theorem fpMove_checks (f : Word → Word) (rd rs2 : RegNum) (s : State) :
    ∃ regs k, fpMove f rd rs2 s = fpopChecks regs k s := ⟨_, _, rfl⟩

theorem fpCompareInstr_checks (p : Prec) (signalOnQuiet : Bool) (rs1 rs2 : RegNum) (s : State) :
    ∃ regs k, fpCompareInstr p signalOnQuiet rs1 rs2 s = fpopChecks regs k s := ⟨_, _, rfl⟩

/-- Every FPop, whatever it computes, does so after the checks of 49 R410. -/
theorem exec_of_fpop (h : i.fpop = true) (s : State) : ∃ regs k, exec i s = fpopChecks regs k s := by
  cases i
  case fitos | fitod | fitoq => rw [exec]; exact fpConvertInt_checks _ _ _ s
  case fstoi | fdtoi | fqtoi | fstod | fstoq | fdtos | fdtoq | fqtos | fqtod | fsqrts | fsqrtd | fsqrtq =>
    rw [exec]; exact fpUnary_checks _ _ _ _ _ s
  case fadds | faddd | faddq | fsubs | fsubd | fsubq | fmuls | fmuld | fmulq | fsmuld | fdmulq | fdivs | fdivd | fdivq =>
    rw [exec]; exact fpBinary_checks _ _ _ _ _ _ s
  case fmovs | fnegs | fabss => rw [exec]; exact fpMove_checks _ _ _ s
  case fcmps | fcmpd | fcmpq | fcmpes | fcmped | fcmpeq => rw [exec]; exact fpCompareInstr_checks _ _ _ _ s
  all_goals cases h

/-- An instruction of the FPU is a load or store, a branch, or an FPop. -/
theorem exec_of_usesFpu (h : i.usesFpu = true) (s : State) :
    (∃ sequenced double n rd rs1 operand k,
      exec i s = fpAccess i.privileged sequenced double n rd rs1 operand k s) ∨
    (∃ k a disp22, exec i s = fbfcc k a disp22 s) ∨ i.fpop = true := by
  cases i
  case ldf | lddf | ldfsr | stf | stdf | stfsr | stdfq => exact .inl ⟨_, _, _, _, _, _, _, rfl⟩
  case fba | fbn | fbu | fbg | fbug | fbl | fbul | fblg | fbne | fbe | fbue | fbge | fbuge | fble | fbule | fbo =>
    exact .inr (.inl ⟨_, _, _, rfl⟩)
  all_goals exact .inr (.inr h)

theorem stdcqIllegal_eq_false_iff : stdcqIllegal s = false ↔ StdcqLegal s := by
  have hchoice : s.cfg.stdcqNoQueue ≠ .illegalInstruction ↔ s.cfg.stdcqNoQueue = .cpException := by
    cases s.cfg.stdcqNoQueue <;> simp
  simp only [stdcqIllegal, StdcqLegal, ← hchoice, Bool.and_eq_false_iff, beq_eq_false_iff_ne, Bool.not_eq_false',
    or_assoc]

theorem execStdcq_of_legal (h : StdcqLegal s) (rd rs1 : RegNum) (operand : Operand2) :
    execStdcq rd rs1 operand s = cpAccess true 8 rs1 operand storeCq s := by
  simp [execStdcq, stdcqIllegal_eq_false_iff.mpr h]

/-- An instruction of the coprocessor is a load or store, where STDCQ, the privileged one, is legal, a branch, or a CPop. -/
theorem exec_of_usesCp (h : i.usesCp = true) (hq : i.privileged = true → StdcqLegal s) :
    (∃ n rs1 operand k, exec i s = cpAccess i.privileged n rs1 operand k s) ∨
    (∃ k, exec i s = cbccc k s) ∨ ∃ k, exec i s = cpop k s := by
  cases i
  case stdcq rd rs1 operand => exact .inl ⟨_, _, _, _, execStdcq_of_legal (hq rfl) rd rs1 operand⟩
  case ldc | lddc | ldcsr | stc | stdc | stcsr => exact .inl ⟨_, _, _, _, rfl⟩
  case cba | cbn | cb3 | cb2 | cb23 | cb1 | cb13 | cb12 | cb123 | cb0 | cb03 | cb02 | cb023 | cb01 | cb013 | cb012 =>
    exact .inr (.inl ⟨_, rfl⟩)
  case cpop1 | cpop2 => rw [exec]; exact .inr (.inr ⟨_, rfl⟩)
  all_goals cases h

theorem exec_fpDisabled (hi : i.usesFpu = true) (hp : i.privileged = true → s.seenS = true) (he : s.fpEnabled = false) :
    exec i s = s.raise .fpDisabled := by
  obtain ⟨_, _, _, _, _, _, _, haccess⟩ | ⟨_, _, _, hbranch⟩ | hfpop := exec_of_usesFpu hi s
  · rw [haccess, fpAccess_disabled hp he]
  · rw [hbranch, fbfcc_disabled he]
  · obtain ⟨_, _, hchecks⟩ := exec_of_fpop hfpop s
    rw [hchecks, fpopChecks_disabled he]

theorem exec_cpDisabled (hi : i.usesCp = true) (hp : i.privileged = true → s.seenS = true ∧ StdcqLegal s)
    (he : s.cpEnabled = false) : exec i s = s.raise .cpDisabled := by
  obtain ⟨_, _, _, _, haccess⟩ | ⟨_, hbranch⟩ | ⟨_, hcpop⟩ := exec_of_usesCp hi fun h => (hp h).2
  · rw [haccess, cpAccess_disabled (fun h => (hp h).1) he]
  · rw [hbranch, cbccc_disabled he]
  · rw [hcpop, cpop_disabled he]

end Sys2Proof.Machine

/-- Settles O57: whichever shared operation the instruction is, its check of the unit is the first that can fail. -/
theorem Sys2Proof.disabledUnits : Obligations.DisabledUnits :=
  ⟨fun _ _ hi hdisabled hp => Machine.exec_fpDisabled hi hp (Machine.State.fpEnabled_eq_false_iff.mpr hdisabled),
    fun _ _ hi hdisabled hp => Machine.exec_cpDisabled hi hp (Machine.State.cpEnabled_eq_false_iff.mpr hdisabled)⟩
end

section
/-! Frames put together: what two updates one after the other leave alone, and the frame of each update that a load, a store or
an atomic makes of the state. -/

namespace Sys2Proof

open Machine

variable {s t u : State} {cs ds es : List Part}

/-! ### Frames of updates one after the other -/

theorem Frame.refl (s : State) : Frame cs s s := by
  intro p _
  cases p <;> simp [Part.same]

theorem Part.same_trans {p : Part} (h : p.same s t) (h' : p.same t u) : p.same s u := by
  cases p
  case intRegs => exact fun w n => (h' w n).trans (h w n)
  case fRegs => exact fun n => (h' n).trans (h n)
  case memory => exact fun k => (h' k).trans (h k)
  all_goals simp_all [Part.same]

theorem Frame.trans (h : Frame cs s t) (h' : Frame ds t u) (hcs : cs ⊆ es) (hds : ds ⊆ es) : Frame es s u :=
  fun p hp => Part.same_trans (h p fun hc => hp (hcs hc)) (h' p fun hd => hp (hds hd))

namespace Machine

/-! ### How an instruction ends (10_state R27) -/

theorem State.advance_frame (s : State) : Frame [.counters, .clock] s s.advance := by
  intro p hp
  cases p
  case counters | clock => simp at hp
  case fRegs => exact State.readF_congr s.advance_f
  all_goals simp [Part.same]

theorem State.advance_advanced (s : State) : Advanced s s.advance := ⟨rfl, rfl⟩

end Machine

/-- What does not write PC and nPC leaves them to `advance`. -/
theorem Frame.advanced (h : Frame cs s t) (hpc : .counters ∉ cs) : Advanced s t.advance := by
  obtain ⟨-, hnpc⟩ := h .counters hpc
  simp [Advanced, hnpc]

namespace Machine

/-! ### Registers -/

theorem State.writeR_frame (s : State) (n : RegNum) (v : Word) : Frame [.intRegs] s (s.writeR n v) := by
  intro p hp
  cases p
  case intRegs => simp at hp
  case fRegs => exact State.readF_congr (State.writeR_f s n v)
  all_goals simp [Part.same]

theorem State.writeRPair_frame (s : State) (n : RegNum) (v : Dword) : Frame [.intRegs] s (s.writeRPair n v) :=
  (s.writeR_frame _ _).trans ((s.writeR _ _).writeR_frame _ _) (List.Subset.refl _) (List.Subset.refl _)

theorem State.writeF_frame (s : State) (n : RegNum) (v : Word) : Frame [.fRegs] s (s.writeF n v) := by
  intro p hp
  cases p
  case fRegs => simp at hp
  all_goals simp [Part.same]

theorem State.writeFd_frame (s : State) (n : RegNum) (v : Dword) : Frame [.fRegs] s (s.writeFd n v) :=
  (s.writeF_frame _ _).trans ((s.writeF _ _).writeF_frame _ _) (List.Subset.refl _) (List.Subset.refl _)

theorem State.loadFsr_frame (s : State) (v : Word) : Frame [.fsr] s (s.loadFsr v) := by
  intro p hp
  cases p
  case fsr => simp at hp
  case intRegs => exact State.readRW_congr rfl rfl rfl
  case fRegs => exact State.readF_congr rfl
  all_goals simp [Part.same, State.loadFsr]

/-- A write of coprocessor registers, of the CSR or of anything else of the coprocessor. -/
theorem State.cp_frame (s : State) (c : Cp) : Frame [.coprocessor] s { s with cp := c } := by
  intro p hp
  cases p
  case coprocessor => simp at hp
  case intRegs => exact State.readRW_congr rfl rfl rfl
  case fRegs => exact State.readF_congr rfl
  all_goals simp [Part.same]

/-! ### Stores -/

/-- A store of any width: what it writes to memory and to the instruction buffer. -/
theorem State.noteStore_frame (s : State) (k : Nat) (m : Memory) :
    Frame [.memory, .clock] s { s.noteStore k with mem := m } := by
  intro p hp
  cases p
  case memory | clock => simp at hp
  case intRegs =>
    exact State.readRW_congr (State.noteStore_cfg s k) (State.noteStore_g s k) (State.noteStore_win s k)
  case fRegs => exact State.readF_congr (State.noteStore_f s k)
  all_goals simp [Part.same]

end Machine

end Sys2Proof
end

section
/-! Integer loads, stores and atomics: which access each instruction performs, in its ordinary and in its alternate form, and
what that access does where it completes and where the oracle answers it. -/

namespace Sys2Proof.Machine

variable {s : State} {rd rs1 : RegNum} {form : Make3 × MakeAlt → Instr} {asi : Asi} {ea : Word} {x : Trap} {n : Nat}

/-! ### The two forms of an access (40 R140, 41 R170, 42 R200) -/

/-- A pair of instructions performs the access `k`: the ordinary form after the checks of one, the alternate form after the
checks of the other. -/
def Performs (mk : Make3) (mkAlt : MakeAlt) (double : Bool) (rd : RegNum) (k : Asi → Word → State → Out) : Prop :=
  ∀ (rs1 : RegNum) (s : State), (∀ o, exec (mk rd rs1 o) s = ordinary double rd rs1 o k s) ∧
    ∀ a, exec (mkAlt rd rs1 a) s = alternate double rd rs1 a k s

theorem accesses_ordinary (s : State) (rd rs1 : RegNum) (o : Operand2) :
    Accesses s rd rs1 (fun c => c.1 rd rs1 o) s.dataAsi (s.effectiveAddress rs1 o) :=
  .inl ⟨o, rfl, rfl, rfl⟩

theorem accesses_alternate (hs : s.seenS = true) (rd rs1 rs2 : RegNum) (asi : Asi) :
    Accesses s rd rs1 (fun c => c.2 rd rs1 (.reg asi rs2)) asi (s.readR rs1 + s.readR rs2) :=
  .inr ⟨hs, rs2, rfl, rfl⟩

/-- Past its checks, either form is the access. -/
theorem Performs.exec_eq {mk : Make3} {mkAlt : MakeAlt} {double : Bool} {k : Asi → Word → State → Out}
    (hk : Performs mk mkAlt double rd k) (hform : Accesses s rd rs1 form asi ea) (hd : oddRdTrap s double rd = false) :
    exec (form (mk, mkAlt)) s = k asi ea s := by
  obtain ⟨hordinary, halternate⟩ := hk rs1 s
  obtain ⟨o, rfl, rfl, rfl⟩ | ⟨hs, rs2, rfl, rfl⟩ := hform
  · exact (hordinary o).trans (ordinary_complete hd)
  · exact (halternate _).trans (alternate_complete hs hd)

/-- The check of rd fails for no even one and nowhere without ODD_RD_TRAPS (D17). -/
theorem oddRdTrap_of_even {double : Bool} (h : double = true → s.cfg.oddRdTraps = true → rd.toNat % 2 = 0) :
    oddRdTrap s double rd = false := by
  have hbit : ¬ rd.toNat % 2 = 1 → rd.getLsbD 0 = false := by simpa using mt (getLsbD_zero_iff rd).mp
  unfold oddRdTrap
  cases double
  · simp
  · cases htraps : s.cfg.oddRdTraps
    · simp
    · rw [hbit (by have := h rfl htraps; omega), Bool.and_false]

/-! ### The access of each pair of instructions -/

section
variable (rd : RegNum)

theorem performs_ldsb : Performs .ldsb .ldsba false rd (loadInteger 1 Memory.read1 sext rd) :=
  fun _ _ => ⟨fun _ => rfl, fun _ => rfl⟩

theorem performs_ldsh : Performs .ldsh .ldsha false rd (loadInteger 2 Memory.read2 sext rd) :=
  fun _ _ => ⟨fun _ => rfl, fun _ => rfl⟩

theorem performs_ldub : Performs .ldub .lduba false rd (loadInteger 1 Memory.read1 zext rd) :=
  fun _ _ => ⟨fun _ => rfl, fun _ => rfl⟩

theorem performs_lduh : Performs .lduh .lduha false rd (loadInteger 2 Memory.read2 zext rd) :=
  fun _ _ => ⟨fun _ => rfl, fun _ => rfl⟩

theorem performs_ld : Performs .ld .lda false rd (loadInteger 4 Memory.read4 id rd) := fun _ _ => ⟨fun _ => rfl, fun _ => rfl⟩

theorem performs_ldd : Performs .ldd .ldda true rd (loadDouble rd) := fun _ _ => ⟨fun _ => rfl, fun _ => rfl⟩

theorem performs_stb : Performs .stb .stba false rd (storeByte rd) := fun _ _ => ⟨fun _ => rfl, fun _ => rfl⟩

theorem performs_sth : Performs .sth .stha false rd (storeHalf rd) := fun _ _ => ⟨fun _ => rfl, fun _ => rfl⟩

theorem performs_st : Performs .st .sta false rd (storeWord rd) := fun _ _ => ⟨fun _ => rfl, fun _ => rfl⟩

theorem performs_std : Performs .std .stda true rd (storePair rd) := fun _ _ => ⟨fun _ => rfl, fun _ => rfl⟩

theorem performs_ldstub : Performs .ldstub .ldstuba false rd (loadStoreByte rd) := fun _ _ => ⟨fun _ => rfl, fun _ => rfl⟩

theorem performs_swap : Performs .swap .swapa false rd (swapWord rd) := fun _ _ => ⟨fun _ => rfl, fun _ => rfl⟩

end

/-! ### Loads (40 R141 to R145, R147 to R151) -/

/-- A load's value: what `read` finds in `n` bytes that hold `v`, extended, is the word `value v`. -/
def ReadsAs {w : Nat} (n : Nat) (read : Memory → Nat → Option (BitVec w)) (extend : BitVec w → Word) (value : Nat → Word) :
    Prop :=
  ∀ (m : Memory) (k v : Nat), v < 256 ^ n → BytesAt m k n v → ∃ b, read m k = some b ∧ extend b = value v

theorem sext_ofNat {n v : Nat} (h : v < 256 ^ n) : sext (BitVec.ofNat (8 * n) v) = signedWord n v := by
  have hpow : 2 ^ (8 * n) = 256 ^ n := by rw [pow_mul]; rfl
  have hmod : v % 2 ^ (8 * n) = v := Nat.mod_eq_of_lt (hpow ▸ h)
  rw [sext, BitVec.signExtend, signedWord, BitVec.toInt_eq_toNat_cond, BitVec.toNat_ofNat, hmod, hpow]
  push_cast
  rfl

theorem zext_ofNat {w v : Nat} (h : v < 2 ^ w) : zext (BitVec.ofNat w v) = BitVec.ofNat 32 v := by
  apply BitVec.eq_of_toNat_eq
  simp [zext, Nat.mod_eq_of_lt h]

/-- Each load reads its bytes and extends them as its row of `loads` says. -/
theorem performs_of_mem_loads {e : Make3 × MakeAlt × Nat × (Nat → Word)} (he : e ∈ loads) (rd : RegNum) :
    ∃ (w : Nat) (read : Memory → Nat → Option (BitVec w)) (extend : BitVec w → Word),
      Performs e.1 e.2.1 false rd (loadInteger e.2.2.1 read extend rd) ∧ ReadsAs e.2.2.1 read extend e.2.2.2 := by
  simp only [loads, List.mem_cons, List.not_mem_nil, or_false] at he
  obtain rfl | rfl | rfl | rfl | rfl := he
  · exact ⟨8, Memory.read1, sext, performs_ldsb rd,
      fun _ _ _ hv hb => ⟨_, Memory.read1_of_bytesAt hb, sext_ofNat (n := 1) hv⟩⟩
  · exact ⟨16, Memory.read2, sext, performs_ldsh rd,
      fun _ _ _ hv hb => ⟨_, Memory.read2_of_bytesAt hb, sext_ofNat (n := 2) hv⟩⟩
  · exact ⟨8, Memory.read1, zext, performs_ldub rd,
      fun _ _ _ hv hb => ⟨_, Memory.read1_of_bytesAt hb, zext_ofNat hv⟩⟩
  · exact ⟨16, Memory.read2, zext, performs_lduh rd,
      fun _ _ _ hv hb => ⟨_, Memory.read2_of_bytesAt hb, zext_ofNat hv⟩⟩
  · exact ⟨32, Memory.read4, id, performs_ld rd,
      fun _ _ _ _ hb => ⟨_, Memory.read4_of_bytesAt hb, rfl⟩⟩

theorem exec_load {e : Make3 × MakeAlt × Nat × (Nat → Word)} (he : e ∈ loads) (hform : Accesses s rd rs1 form asi ea)
    (ha : ea.toNat % e.2.2.1 = 0) {k v : Nat} (hl : s.locate .read asi ea e.2.2.1 s.seenS = .found k)
    (hv : v < 256 ^ e.2.2.1) (hb : BytesAt s.mem k e.2.2.1 v) :
    exec (form (e.1, e.2.1)) s = .next (s.writeR rd (e.2.2.2 v)).advance := by
  obtain ⟨w, read, extend, hk, hreads⟩ := performs_of_mem_loads he rd
  obtain ⟨b, hread, hvalue⟩ := hreads s.mem k v hv hb
  rw [hk.exec_eq hform rfl, loadInteger, loadAt_complete ha hl hread, hvalue]

theorem State.writeR_advance_complete (s : State) (rd : RegNum) (v : Word) :
    RegWritten s (s.writeR rd v).advance s.seenCwp rd v ∧ Advanced s (s.writeR rd v).advance ∧
      Frame [.counters, .intRegs, .clock] s (s.writeR rd v).advance :=
  ⟨s.readRW_writeR rd v, (s.writeR_frame rd v).advanced (by decide),
    (s.writeR_frame rd v).trans (s.writeR rd v).advance_frame (by decide) (by decide)⟩

/-! ### Stores (41 R171 to R173, R175 to R177) -/

/-- The bytes of a number do not show what lies above them. -/
theorem byteOf_mod (n v j : Nat) (h : j < n) : byteOf n (v % 256 ^ n) j = byteOf n v j := by
  have hsplit : 256 ^ n = 256 ^ (n - 1 - j) * (256 * 256 ^ j) := by
    rw [← pow_succ', ← pow_add]; congr 1; omega
  apply BitVec.eq_of_toNat_eq
  simp only [byteOf, BitVec.toNat_ofNat]
  rw [hsplit, Nat.mod_mul_right_div_self]
  exact Nat.mod_mul_right_mod _ 256 _

theorem stored_of_mod {t : State} {k v : Nat} (h : Stored s t k n (v % 256 ^ n)) : Stored s t k n v := by
  intro j
  rw [h j]
  split
  case isTrue hj => rw [byteOf_mod n v _ (by omega)]
  case isFalse => rfl

/-- Storing the low bits of a word is storing the word's low bytes. -/
theorem stored_lowBits {t : State} {k : Nat} {v : Word} (h : Stored s t k n (v.extractLsb' 0 (8 * n)).toNat) :
    Stored s t k n v.toNat := by
  rw [toNat_lowBits, pow_mul] at h
  exact stored_of_mod h

/-- Each store writes the low bytes of r[rd], and a trap of its access leaves nothing behind. -/
theorem performs_of_mem_stores {e : Make3 × MakeAlt × Nat} (he : e ∈ stores) (rd : RegNum) :
    ∃ k, Performs e.1 e.2.1 false rd k ∧ ∀ s : State, ∃ store : Nat → State → State,
      (∀ asi ea, k asi ea s = storeAt e.2.2 store spoilNothing asi ea s) ∧
      ∀ key, Stored s (store key s) key e.2.2 (s.readR rd).toNat ∧ Frame [.memory, .clock] s (store key s) := by
  simp only [stores, List.mem_cons, List.not_mem_nil, or_false] at he
  obtain rfl | rfl | rfl := he
  · exact ⟨storeByte rd, performs_stb rd, fun s => ⟨_, fun _ _ => rfl, fun key =>
      ⟨stored_lowBits (s.store1_stored key _), s.noteStore_frame key _⟩⟩⟩
  · exact ⟨storeHalf rd, performs_sth rd, fun s => ⟨_, fun _ _ => rfl, fun key =>
      ⟨stored_lowBits (s.store2_stored key _), s.noteStore_frame key _⟩⟩⟩
  · exact ⟨storeWord rd, performs_st rd, fun s => ⟨_, fun _ _ => rfl, fun key =>
      ⟨s.store4_stored key _, s.noteStore_frame key _⟩⟩⟩

theorem exec_store {e : Make3 × MakeAlt × Nat} (he : e ∈ stores) (hform : Accesses s rd rs1 form asi ea)
    (ha : ea.toNat % e.2.2 = 0) {k : Nat} (hl : s.locate .write asi ea e.2.2 s.seenS = .found k) :
    ∃ t, exec (form (e.1, e.2.1)) s = .next t ∧ Stored s t k e.2.2 (s.readR rd).toNat ∧ Advanced s t ∧
      Frame [.counters, .memory, .clock] s t := by
  obtain ⟨access, hk, hstores⟩ := performs_of_mem_stores he rd
  obtain ⟨store, haccess, hstore⟩ := hstores s
  obtain ⟨hstored, hframe⟩ := hstore k
  exact ⟨(store k s).advance, by rw [hk.exec_eq hform rfl, haccess, storeAt_complete ha hl], hstored,
    hframe.advanced (by decide), hframe.trans (State.advance_frame _) (by decide) (by decide)⟩

/-! ### Where the oracle answers (20 R84, R90, D26) -/

theorem trapsAfter_writeR {o : Out} {v : Word} (h : o = .next ((s.writeR rd v).trap x)) :
    TrapsAfter s o x [.intRegs] (fun u => ∃ v, RegWritten s u s.seenCwp rd v) :=
  ⟨s.writeR rd v, s.writeR_frame rd v, ⟨v, s.readRW_writeR rd v⟩, h⟩

theorem exec_load_faults {e : Make3 × MakeAlt × Nat × (Nat → Word)} (he : e ∈ loads)
    (hform : Accesses s rd rs1 form asi ea) (h : AccessFaults s .read asi ea e.2.2.1 x) :
    exec (form (e.1, e.2.1)) s = .next ((spoilR rd s).trap x) := by
  obtain ⟨w, read, extend, hk, -⟩ := performs_of_mem_loads he rd
  rw [hk.exec_eq hform rfl, loadInteger, loadAt_faults h]

theorem storeAt_spoilNothing_faults {store : Nat → State → State} (h : AccessFaults s .write asi ea n x) :
    storeAt n store spoilNothing asi ea s = .next (s.trap x) := by
  rw [storeAt_faults h]
  cases s.bankOf asi <;> rfl

theorem exec_store_faults {e : Make3 × MakeAlt × Nat} (he : e ∈ stores) (hform : Accesses s rd rs1 form asi ea)
    (h : AccessFaults s .write asi ea e.2.2 x) : exec (form (e.1, e.2.1)) s = .next (s.trap x) := by
  obtain ⟨access, hk, hstores⟩ := performs_of_mem_stores he rd
  obtain ⟨store, haccess, -⟩ := hstores s
  rw [hk.exec_eq hform rfl, haccess, storeAt_spoilNothing_faults h]

theorem exec_atomic_faults {e : Make3 × MakeAlt × Nat} (he : e ∈ atomics) (hform : Accesses s rd rs1 form asi ea)
    (h : AccessFaults s .atomic asi ea e.2.2 x) : exec (form (e.1, e.2.1)) s = .next ((spoilR rd s).trap x) := by
  simp only [atomics, List.mem_cons, List.not_mem_nil, or_false] at he
  obtain rfl | rfl := he
  · rw [(performs_ldstub rd).exec_eq hform rfl, loadStoreByte, atomicAt_faults h]
  · rw [(performs_swap rd).exec_eq hform rfl, swapWord, atomicAt_faults h]

/-! ### Doublewords where the oracle answers -/

theorem trapsAfter_writeRPair {o : Out} {v : Dword} (h : o = .next ((s.writeRPair rd v).trap x)) :
    TrapsAfter s o x [.intRegs] (fun u => ∃ v, PairWritten s u s.seenCwp rd v) :=
  ⟨s.writeRPair rd v, s.writeRPair_frame rd v, ⟨v, s.readRW_writeRPair rd v⟩, h⟩

theorem spoilFirstWord_firstWordOnly {b : Nat} (hb : s.bankOf asi = some b) :
    FirstWordOnly s asi ea (spoilFirstWord (Memory.key b ea) s) := by
  intro j hj
  have houtside := hj b hb
  rw [spoilFirstWord, s.store4_stored (Memory.key b ea) _ j, if_neg (by omega)]

/-- A doubleword store that the oracle answers leaves any value in the first word where its space has storage (20 R90(d)), and
nothing elsewhere. -/
theorem storeAt_spoilFirstWord_faults {store : Nat → State → State} (h : AccessFaults s .write asi ea n x) :
    TrapsAfter s (storeAt n store spoilFirstWord asi ea s) x [.memory, .clock] (FirstWordOnly s asi ea) := by
  rw [storeAt_faults h]
  cases hb : s.bankOf asi with
  | none => exact ⟨s, Frame.refl s, fun _ _ => rfl, rfl⟩
  | some b => exact ⟨_, s.noteStore_frame _ _, spoilFirstWord_firstWordOnly hb, rfl⟩

end Sys2Proof.Machine

namespace Sys2Proof

open Machine

/-- Settles O40: either form of a load is the one access, which reads the bytes at its key. -/
theorem integerLoads : Obligations.IntegerLoads := by
  intro e he s rd rs1 k v hv hb
  refine ⟨fun o ha hl => ?_, fun asi rs2 hs ha hl => ?_⟩
  · exact ⟨_, exec_load he (accesses_ordinary s rd rs1 o) ha hl hv hb, s.writeR_advance_complete rd _⟩
  · exact ⟨_, exec_load he (accesses_alternate hs rd rs1 rs2 asi) ha hl hv hb, s.writeR_advance_complete rd _⟩

/-- Settles O42: either form of a store is the one access, which writes the low bytes of r[rd]. -/
theorem integerStores : Obligations.IntegerStores := by
  intro e he s rd rs1 k
  refine ⟨fun o ha hl => ?_, fun asi rs2 hs ha hl => ?_⟩
  · exact exec_store he (accesses_ordinary s rd rs1 o) ha hl
  · exact exec_store he (accesses_alternate hs rd rs1 rs2 asi) ha hl

/-- Settles O44: what an access leaves where the oracle answers it, in either form. -/
theorem dataAccessTraps : Obligations.DataAccessTraps := by
  intro s rd rs1 form asi ea x hform
  refine ⟨fun e he h => ?_, fun e he h => ?_, fun e he h => ?_, fun heven => ⟨fun h => ?_, fun h => ?_⟩⟩
  · exact trapsAfter_writeR (exec_load_faults he hform h)
  · exact exec_store_faults he hform h
  · exact trapsAfter_writeR (exec_atomic_faults he hform h)
  · refine trapsAfter_writeRPair (v := s.drawWord .loadDest ++ s.drawWord .loadDest2) ?_
    rw [(performs_ldd rd).exec_eq hform (oddRdTrap_of_even fun _ => heven), loadDouble, loadAt_faults h, spoilRPair]
  · rw [(performs_std rd).exec_eq hform (oddRdTrap_of_even fun _ => heven)]
    exact storeAt_spoilFirstWord_faults h

end Sys2Proof
end

section
/-! Floating-point and coprocessor loads and stores that the oracle answers: with the unit enabled and in no exception state
every check passes, and what the trap of the access leaves behind. -/

namespace Sys2Proof.Machine

variable {s : State} {rd rs1 : RegNum} {o : Operand2} {x : Trap} {n : Nat} {k : Asi → Word → State → Out}

/-! ### The checks pass (40 R153, R157, 41 R179, R184) -/

theorem fpInException_of_quiet (h : FpQuiet s) : s.fpInException = false := by
  unfold State.fpInException
  cases hq : s.cfg.fqPresent
  · rfl
  · obtain ⟨hpending, hempty⟩ := h hq
    simp [hpending, hempty]

theorem State.fpEnabled_of_present (hef : s.seenEf = true) (hfpu : s.cfg.fpuPresent = true) : s.fpEnabled = true :=
  Bool.and_eq_true_iff.mpr ⟨hef, hfpu⟩

theorem State.cpEnabled_of_present (hec : s.seenEc = true) (hcp : s.cfg.cpPresent = true) : s.cpEnabled = true :=
  Bool.and_eq_true_iff.mpr ⟨hec, hcp⟩

/-- An access of an enabled and quiet FPU is made, whether or not it is one that raises sequence_error. -/
theorem fpAccess_quiet {sequenced double : Bool} (he : s.fpEnabled = true) (hq : FpQuiet s)
    (heven : double = true → s.cfg.fregAlignTraps = true → rd.toNat % 2 = 0)
    (ha : (s.effectiveAddress rs1 o).toNat % n = 0) :
    fpAccess false sequenced double n rd rs1 o k s = k s.dataAsi (s.effectiveAddress rs1 o) s := by
  refine fpAccess_complete nofun he ha (fun _ => fpInException_of_quiet hq) fun hdouble htraps => ?_
  have hnotOdd := mt (getLsbD_zero_iff rd).mp (by have := heven hdouble htraps; omega)
  simpa using hnotOdd

/-! ### Where the oracle answers -/

theorem readAt_faults {α : Type} {kind : AccessKind} {read : Memory → Nat → Option α} {spoiled : State → State} {asi : Asi}
    {ea : Word} {k : Nat → α → State → Out} (h : s.locate kind asi ea n s.seenS = .trap x) :
    readAt kind n read spoiled asi ea k s = .next ((spoiled s).trap x) := by
  simp only [readAt, h, State.raise]

theorem spoilFd_written (s : State) (rd : RegNum) : ∃ v, FpWritten s (spoilFd rd s) .double rd v := by
  refine ⟨(s.drawWord .loadDest ++ s.drawWord .loadDest2 : Dword).toNat, ?_⟩
  have h := s.readF_writeFp .double rd (s.drawWord .loadDest ++ s.drawWord .loadDest2 : Dword).toNat
  rwa [State.writeFp, BitVec.ofNat_toNat, BitVec.setWidth_eq] at h

theorem Fsr.load_from (r : Fsr) (w : Word) : FsrFrom r w (r.load w) := ⟨rfl, rfl, rfl, rfl, rfl, rfl, rfl⟩

theorem spoilCPair_frame (s : State) (rd : RegNum) : Frame [.coprocessor] s (spoilCPair rd s) :=
  (s.cp_frame _).trans (State.cp_frame _ _) (List.Subset.refl _) (List.Subset.refl _)

theorem readC_spoilCPair (s : State) (rd n : RegNum) : (spoilCPair rd s).readC n =
    if n = oddReg rd then s.drawWord .loadDest2 else if n = evenReg rd then s.drawWord .loadDest else s.readC n := by
  rw [spoilCPair, State.readC_writeC, State.readC_writeC]

end Sys2Proof.Machine

namespace Sys2Proof

open Machine

variable {s : State} {rd rs1 : RegNum} {o : Operand2} {x : Trap}

/-! ### Floating-point loads -/

section
variable (he : s.fpEnabled = true) (hq : FpQuiet s)
include he hq

theorem ldf_faults (h : AccessFaults s .read s.dataAsi (s.effectiveAddress rs1 o) 4 x) :
    TrapsAfter s (exec (.ldf rd rs1 o) s) x [.fRegs] (fun u => ∃ v, FWritten s u rd v) := by
  refine ⟨spoilF rd s, s.writeF_frame rd _, ⟨_, s.readF_writeF rd _⟩, ?_⟩
  rw [exec, execLdf, fpAccess_quiet (double := false) he hq nofun h.1, loadAt_faults h]

theorem ldfsr_faults (h : AccessFaults s .read s.dataAsi (s.effectiveAddress rs1 o) 4 x) :
    TrapsAfter s (exec (.ldfsr rd rs1 o) s) x [.fsr] (fun u => ∃ v, FsrFrom s.fsr v u.fsr) := by
  refine ⟨spoilFsr s, s.loadFsr_frame _, ⟨_, s.fsr.load_from _⟩, ?_⟩
  rw [exec, execLdfsr, fpAccess_quiet (double := false) he hq nofun h.1, loadFsrAt, readAt_faults h.2]

theorem lddf_faults (heven : s.cfg.fregAlignTraps = true → rd.toNat % 2 = 0)
    (h : AccessFaults s .read s.dataAsi (s.effectiveAddress rs1 o) 8 x) :
    TrapsAfter s (exec (.lddf rd rs1 o) s) x [.fRegs] (fun u => ∃ v, FpWritten s u .double rd v) := by
  refine ⟨spoilFd rd s, s.writeFd_frame rd _, spoilFd_written s rd, ?_⟩
  rw [exec, execLddf, fpAccess_quiet he hq (fun _ => heven) h.1, loadAt_faults h]

/-! ### Floating-point stores -/

theorem stf_faults (h : AccessFaults s .write s.dataAsi (s.effectiveAddress rs1 o) 4 x) :
    exec (.stf rd rs1 o) s = .next (s.trap x) := by
  rw [exec, execStf, fpAccess_quiet (double := false) he hq nofun h.1, storeF, storeAt_spoilNothing_faults h]

theorem stfsr_faults (h : AccessFaults s .write s.dataAsi (s.effectiveAddress rs1 o) 4 x) :
    exec (.stfsr rd rs1 o) s = .next (s.trap x) := by
  rw [exec, execStfsr, fpAccess_quiet (double := false) he hq nofun h.1, storeFsr, storeAt_spoilNothing_faults h]

theorem stdf_faults (heven : s.cfg.fregAlignTraps = true → rd.toNat % 2 = 0)
    (h : AccessFaults s .write s.dataAsi (s.effectiveAddress rs1 o) 8 x) :
    TrapsAfter s (exec (.stdf rd rs1 o) s) x [.memory, .clock] (FirstWordOnly s s.dataAsi (s.effectiveAddress rs1 o)) := by
  rw [exec, execStdf, fpAccess_quiet he hq (fun _ => heven) h.1]
  exact storeAt_spoilFirstWord_faults h

end

/-- STDFQ has no sequence_error line: its queue is not empty. -/
theorem stdfq_faults (hs : s.seenS = true) (he : s.fpEnabled = true) (hpresent : s.cfg.fqPresent = true) (hfq : s.fq ≠ [])
    (h : AccessFaults s .write s.dataAsi (s.effectiveAddress rs1 o) 8 x) :
    TrapsAfter s (exec (.stdfq rd rs1 o) s) x [.memory, .clock] (FirstWordOnly s s.dataAsi (s.effectiveAddress rs1 o)) := by
  obtain ⟨d, rest, hfront⟩ := List.exists_cons_of_ne_nil hfq
  rw [exec, execStdfq, fpAccess_complete (sequenced := false) (double := false) (fun _ => hs) he h.1 nofun nofun]
  simp only [storeFq, hpresent, hfront, Bool.not_true, Bool.false_eq_true, if_false]
  exact storeAt_spoilFirstWord_faults h

/-! ### Coprocessor loads -/

section
variable (he : s.cpEnabled = true) (hx : s.cpExc = false)
include he hx

theorem ldc_faults (h : AccessFaults s .read s.dataAsi (s.effectiveAddress rs1 o) 4 x) :
    TrapsAfter s (exec (.ldc rd rs1 o) s) x [.coprocessor] (fun u =>
      ∃ v, u.cp = { s.cp with regs := s.cp.regs.setIfInBounds rd.toNat v }) := by
  refine ⟨spoilC rd s, s.cp_frame _, ⟨_, rfl⟩, ?_⟩
  rw [exec, execLdc, cpAccess_complete (privileged := false) nofun he h.1 hx, loadAt_faults h]

theorem ldcsr_faults (h : AccessFaults s .read s.dataAsi (s.effectiveAddress rs1 o) 4 x) :
    TrapsAfter s (exec (.ldcsr rd rs1 o) s) x [.coprocessor] (fun u => ∃ v, u.cp = { s.cp with csr := v }) := by
  refine ⟨spoilCsr s, s.cp_frame _, ⟨_, rfl⟩, ?_⟩
  rw [exec, execLdcsr, cpAccess_complete (privileged := false) nofun he h.1 hx, loadAt_faults h]

theorem lddc_faults (h : AccessFaults s .read s.dataAsi (s.effectiveAddress rs1 o) 8 x) :
    TrapsAfter s (exec (.lddc rd rs1 o) s) x [.coprocessor] (fun u =>
      u.cp.csr = s.cp.csr ∧ u.cp.cq = s.cp.cq ∧ u.cp.cc = s.cp.cc ∧
        ∃ v w, ∀ n, u.readC n = if n = oddReg rd then w else if n = evenReg rd then v else s.readC n) := by
  refine ⟨spoilCPair rd s, spoilCPair_frame s rd, ⟨rfl, rfl, rfl, _, _, readC_spoilCPair s rd⟩, ?_⟩
  rw [exec, execLddc, cpAccess_complete (privileged := false) nofun he h.1 hx, loadAt_faults h]

/-! ### Coprocessor stores -/

theorem stc_faults (h : AccessFaults s .write s.dataAsi (s.effectiveAddress rs1 o) 4 x) :
    exec (.stc rd rs1 o) s = .next (s.trap x) := by
  rw [exec, execStc, cpAccess_complete (privileged := false) nofun he h.1 hx, storeC, storeAt_spoilNothing_faults h]

theorem stcsr_faults (h : AccessFaults s .write s.dataAsi (s.effectiveAddress rs1 o) 4 x) :
    exec (.stcsr rd rs1 o) s = .next (s.trap x) := by
  rw [exec, execStcsr, cpAccess_complete (privileged := false) nofun he h.1 hx, storeCsr, storeAt_spoilNothing_faults h]

theorem stdc_faults (h : AccessFaults s .write s.dataAsi (s.effectiveAddress rs1 o) 8 x) :
    TrapsAfter s (exec (.stdc rd rs1 o) s) x [.memory, .clock] (FirstWordOnly s s.dataAsi (s.effectiveAddress rs1 o)) := by
  rw [exec, execStdc, cpAccess_complete (privileged := false) nofun he h.1 hx]
  exact storeAt_spoilFirstWord_faults h

theorem stdcq_faults (hs : s.seenS = true) (hpresent : s.cfg.cqPresent = true)
    (h : AccessFaults s .write s.dataAsi (s.effectiveAddress rs1 o) 8 x) :
    TrapsAfter s (exec (.stdcq rd rs1 o) s) x [.memory, .clock] (FirstWordOnly s s.dataAsi (s.effectiveAddress rs1 o)) := by
  rw [exec, execStdcq_of_legal (.inr (.inl hpresent)), cpAccess_complete (fun _ => hs) he h.1 hx]
  simp only [storeCq, hpresent, Bool.not_true, Bool.false_eq_true, if_false]
  exact storeAt_spoilFirstWord_faults h

end

/-- Settles O48: one lemma for each instruction. -/
theorem unitAccessTraps : Obligations.UnitAccessTraps := by
  intro s rd rs1 o x
  refine ⟨fun hef hfpu hq => ?_, fun hs hef hfpu hpresent hfq h => ?_, fun hec hcp hx => ?_⟩
  · have he := State.fpEnabled_of_present hef hfpu
    exact ⟨fun h => ⟨ldf_faults he hq h, ldfsr_faults he hq h⟩, fun h => ⟨stf_faults he hq h, stfsr_faults he hq h⟩,
      fun heven => ⟨lddf_faults he hq heven, stdf_faults he hq heven⟩⟩
  · exact stdfq_faults hs (State.fpEnabled_of_present hef hfpu) hpresent hfq h
  · have he := State.cpEnabled_of_present hec hcp
    exact ⟨fun h => ⟨ldc_faults he hx h, ldcsr_faults he hx h⟩, fun h => ⟨stc_faults he hx h, stcsr_faults he hx h⟩,
      lddc_faults he hx, fun h => ⟨stdc_faults he hx h, fun hs hpresent => stdcq_faults he hx hs hpresent h⟩⟩

end Sys2Proof
end

section
/-! The checks of an access that fail: i = 1 in an alternate form, an address that is no multiple of the width. Which shared
operation each row of the tables of accesses is, and what that operation does where the check fails. -/

namespace Sys2Proof.Machine

variable {s : State} {rd rs1 : RegNum} {n : Nat}

/-! ### Alternate forms with i = 1 (20 R71, 30 R118) -/

theorem exec_of_mem_alternates {mk : MakeAlt} (h : mk ∈ alternates) (rd rs1 : RegNum) (a : AltOperand) (s : State) :
    ∃ double k, exec (mk rd rs1 a) s = alternate double rd rs1 a k s := by
  simp only [alternates, List.mem_cons, List.not_mem_nil, or_false] at h
  obtain rfl | rfl | rfl | rfl | rfl | rfl | rfl | rfl | rfl | rfl | rfl | rfl := h
  all_goals exact ⟨_, _, rfl⟩

theorem alternate_imm {double : Bool} {low13 : BitVec 13} {k : Asi → Word → State → Out} (hs : s.seenS = true) :
    alternate double rd rs1 (.imm low13) k s = s.raise .illegalInstruction := by
  simp [alternate, hs]

/-! ### Alignment (20 R74, R75) -/

/-- An access of `n` bytes begins with the check of its address. -/
def ChecksAlignment (n : Nat) (k : Asi → Word → State → Out) : Prop :=
  ∀ (asi : Asi) (ea : Word) (s : State), ea.toNat % n ≠ 0 → k asi ea s = s.raise .memAddressNotAligned

theorem aligned_eq_false {ea : Word} (h : ea.toNat % n ≠ 0) : aligned n ea = false := by
  simpa using mt (aligned_iff n ea).mp h

theorem loadAt_checksAlignment {α : Type} {read : Memory → Nat → Option α} {write : α → State → State}
    {spoiled : State → State} : ChecksAlignment n (loadAt n read write spoiled) := by
  intro asi ea s h
  simp [loadAt, aligned_eq_false h]

theorem storeAt_checksAlignment {store : State → Nat → State → State} {spoiled : Nat → State → State} :
    ChecksAlignment n (fun asi ea s => storeAt n (store s) spoiled asi ea s) := by
  intro asi ea s h
  simp [storeAt, aligned_eq_false h]

theorem atomicAt_checksAlignment {α : Type} {read : Memory → Nat → Option α} {store : State → Nat → State → State}
    {write : α → State → State} {spoiled : State → State} :
    ChecksAlignment n (fun asi ea s => atomicAt n read (store s) write spoiled asi ea s) := by
  intro asi ea s h
  simp [atomicAt, aligned_eq_false h]

/-- The integer accesses with an alignment, both forms of each (20 R74). -/
def alignedAccesses : List (Make3 × MakeAlt × Nat) :=
  [(.ldsh, .ldsha, 2), (.lduh, .lduha, 2), (.ld, .lda, 4), (.ldd, .ldda, 8), (.sth, .stha, 2), (.st, .sta, 4),
   (.std, .stda, 8), (.swap, .swapa, 4)]

theorem ordinaryAccesses_eq : ordinaryAccesses = alignedAccesses.map (fun e => (e.1, e.2.2)) := rfl

theorem alternateAccesses_eq : alternateAccesses = alignedAccesses.map (fun e => e.2) := rfl

theorem performs_of_mem_alignedAccesses {e : Make3 × MakeAlt × Nat} (h : e ∈ alignedAccesses) (rd : RegNum) :
    ∃ double k, Performs e.1 e.2.1 double rd k ∧ (double = true → e.2.2 = 8) ∧ ChecksAlignment e.2.2 k := by
  simp only [alignedAccesses, List.mem_cons, List.not_mem_nil, or_false] at h
  obtain rfl | rfl | rfl | rfl | rfl | rfl | rfl | rfl := h
  · exact ⟨_, _, performs_ldsh rd, nofun, loadAt_checksAlignment⟩
  · exact ⟨_, _, performs_lduh rd, nofun, loadAt_checksAlignment⟩
  · exact ⟨_, _, performs_ld rd, nofun, loadAt_checksAlignment⟩
  · exact ⟨_, _, performs_ldd rd, fun _ => rfl, loadAt_checksAlignment⟩
  · exact ⟨_, _, performs_sth rd, nofun, storeAt_checksAlignment⟩
  · exact ⟨_, _, performs_st rd, nofun, storeAt_checksAlignment⟩
  · exact ⟨_, _, performs_std rd, fun _ => rfl, storeAt_checksAlignment⟩
  · exact ⟨_, _, performs_swap rd, nofun, atomicAt_checksAlignment⟩

theorem exec_misaligned {e : Make3 × MakeAlt × Nat} (he : e ∈ alignedAccesses) {form : Make3 × MakeAlt → Instr} {asi : Asi}
    {ea : Word} (hform : Accesses s rd rs1 form asi ea) (ha : ea.toNat % e.2.2 ≠ 0)
    (heven : e.2.2 = 8 → s.cfg.oddRdTraps = true → rd.toNat % 2 = 0) :
    exec (form (e.1, e.2.1)) s = .next (s.trap .memAddressNotAligned) := by
  obtain ⟨double, k, hk, hdouble, hcheck⟩ := performs_of_mem_alignedAccesses he rd
  rw [hk.exec_eq hform (oddRdTrap_of_even fun h => heven (hdouble h)), hcheck asi ea s ha, State.raise]

/-! ### Alignment of floating-point and coprocessor accesses (40 R153, R157, 41 R179, R184) -/

theorem fpAccess_misaligned {privileged sequenced double : Bool} {o : Operand2} {k : Asi → Word → State → Out}
    (hp : privileged = true → s.seenS = true) (he : s.fpEnabled = true)
    (ha : (s.effectiveAddress rs1 o).toNat % n ≠ 0) :
    fpAccess privileged sequenced double n rd rs1 o k s = s.raise .memAddressNotAligned := by
  have hallowed : (privileged && !s.seenS) = false := by simpa using hp
  simp [fpAccess, hallowed, he, aligned_eq_false ha]

theorem cpAccess_misaligned {privileged : Bool} {o : Operand2} {k : Asi → Word → State → Out}
    (hp : privileged = true → s.seenS = true) (he : s.cpEnabled = true)
    (ha : (s.effectiveAddress rs1 o).toNat % n ≠ 0) :
    cpAccess privileged n rs1 o k s = s.raise .memAddressNotAligned := by
  have hallowed : (privileged && !s.seenS) = false := by simpa using hp
  simp [cpAccess, hallowed, he, aligned_eq_false ha]

theorem exec_of_mem_fpAccesses {e : Make3 × Nat × Bool} (h : e ∈ fpAccesses) (rd rs1 : RegNum) (o : Operand2) (s : State) :
    ∃ sequenced double k, exec (e.1 rd rs1 o) s = fpAccess e.2.2 sequenced double e.2.1 rd rs1 o k s := by
  simp only [fpAccesses, List.mem_cons, List.not_mem_nil, or_false] at h
  obtain rfl | rfl | rfl | rfl | rfl | rfl | rfl := h
  all_goals exact ⟨_, _, _, rfl⟩

/-- STDCQ, the privileged one, only where it is legal. -/
theorem exec_of_mem_cpAccesses {e : Make3 × Nat × Bool} (h : e ∈ cpAccesses) (rd rs1 : RegNum) (o : Operand2)
    (hq : e.2.2 = true → StdcqLegal s) : ∃ k, exec (e.1 rd rs1 o) s = cpAccess e.2.2 e.2.1 rs1 o k s := by
  simp only [cpAccesses, List.mem_cons, List.not_mem_nil, or_false] at h
  obtain rfl | rfl | rfl | rfl | rfl | rfl | rfl := h
  case inr.inr.inr.inr.inr.inr => exact ⟨_, execStdcq_of_legal (hq rfl) rd rs1 o⟩
  all_goals exact ⟨_, rfl⟩

end Sys2Proof.Machine

namespace Sys2Proof

open Machine

/-- Settles O58: the failing check is the first that can fail, in each table of accesses. -/
theorem accessChecksTrap : Obligations.AccessChecksTrap := by
  refine ⟨fun mk hmk s rd rs1 low13 hs => ?_, fun row hrow s rd rs1 o ha heven => ?_,
    fun row hrow s rd rs1 rs2 asi hs ha heven => ?_, fun e he s rd rs1 o hef hfpu hp ha => ?_,
    fun e he s rd rs1 o hec hcp hp ha => ?_⟩
  · obtain ⟨double, k, hexec⟩ := exec_of_mem_alternates hmk rd rs1 (.imm low13) s
    rw [hexec, alternate_imm hs, State.raise]
  · rw [ordinaryAccesses_eq] at hrow
    obtain ⟨e, he, rfl⟩ := List.mem_map.mp hrow
    exact exec_misaligned he (accesses_ordinary s rd rs1 o) ha heven
  · rw [alternateAccesses_eq] at hrow
    obtain ⟨e, he, rfl⟩ := List.mem_map.mp hrow
    exact exec_misaligned he (accesses_alternate hs rd rs1 rs2 asi) ha heven
  · obtain ⟨sequenced, double, k, hexec⟩ := exec_of_mem_fpAccesses he rd rs1 o s
    rw [hexec, fpAccess_misaligned hp (State.fpEnabled_of_present hef hfpu) ha, State.raise]
  · obtain ⟨k, hexec⟩ := exec_of_mem_cpAccesses he rd rs1 o fun h => (hp h).2
    rw [hexec, cpAccess_misaligned (fun h => (hp h).1) (State.cpEnabled_of_present hec hcp) ha, State.raise]

end Sys2Proof
end

section
/-! What a step does that runs no instruction: a fetch that the oracle answers, a word that no row assigns, an instruction one of
whose registers the oracle answers, and an instruction that the implementation leaves to software. -/

namespace Sys2Proof.Machine

variable {s : State} {w : Word} {i : Instr} {x : Trap}

/-! ### The fetch (20 R84) -/

theorem step_of_fetch_trap (h : BeforeFetch s)
    (hx : s.locate .fetch s.instrAsi s.pc 4 s.fetchSupervisor = .trap x) : step s = .next (s.trap x) := by
  have hfetch : s.fetch = .trap x := by simp only [State.fetch, hx]
  rw [step_of_beforeFetch h, hfetch, execFetched, State.raise]

/-! ### The decoding (30 R117, 49 R454) -/

theorem execWord_unassigned (h : decode w = .unassigned) : execWord w s = .next (s.trap .illegalInstruction) := by
  simp only [execWord, h, State.raise]

theorem execWord_unassignedFpop (h : decode w = .unassignedFpop) : execWord w s = fpopUnimplemented s := by
  simp only [execWord, h]

/-- Past fp_disabled, a deferred trap and the queue, an FPop without a meaning is unimplemented_FPop. -/
theorem fpopUnimplemented_of_ready (h : FpReady s []) : fpopUnimplemented s = s.raiseFp 3 := by
  simp [fpopUnimplemented, fpopReady, h.enabled, h.noTrap, h.noQueue]

theorem fpopUnimplemented_entered (h : FpReady s []) (het : s.psr.et = true) (hp : s.pending = []) :
    ∃ t, fpopUnimplemented s = .next t ∧ TrapEntered { s with fsr := { s.fsr with ftt := 3 } } t 0x08 := by
  obtain ⟨-, -, -, -, -, -, hseen, -⟩ := State.seen_of_noPending hp
  rw [fpopUnimplemented_of_ready h]
  exact State.raiseFp_entered (hseen.trans het) hp 3

/-! ### The registers (60 R471; log 36) -/

/-- The first register of the word that the oracle answers raises the one trap it can. -/
theorem registerFault_of_exists (h : ∃ n ∈ sourceRegisters w, s.registerTrap n ≠ none) :
    s.registerFault w = some .rRegisterAccessError := by
  obtain ⟨n, hn, htrap⟩ := h
  cases hfault : s.registerFault w with
  | none => exact absurd (registerFault_eq_none_iff.mp hfault n hn) htrap
  | some x =>
    obtain ⟨m, -, hm⟩ := List.exists_of_findSome?_eq_some hfault
    rw [State.registerTrap_eq hm]

theorem execWord_of_registerTrap (hdecode : decode w = .instr i)
    (hunused : s.cfg.unusedBits = .refuse → unusedFieldSet w i = false)
    (h : ∃ n ∈ sourceRegisters w, s.registerTrap n ≠ none) : execWord w s = .next (s.trap .rRegisterAccessError) := by
  have haccepted : (s.cfg.unusedBits == .refuse && unusedFieldSet w i) = false := by simpa using hunused
  simp [execWord, hdecode, haccepted, registerFault_of_exists h, State.raise]

/-! ### Instructions left to software (60 R477, R491; log 28) -/

/-- The FPops are the instructions of two op3 codes (49 R410). -/
theorem isFpop_eq_fpop (i : Instr) : isFpop i = i.fpop := by
  cases i
  case call disp30 =>
    have hop : (1#2 ++ disp30).extractLsb' 30 2 = 1#2 := by ext j hj; simp; grind
    simp only [isFpop, encode, hop]
    rfl
  all_goals
    simp only [isFpop, encode, branchWord, operateWord, ticcWord, Laws.format2_op, Laws.format3_op, Laws.format3_op3]
    rfl

/-- No FPop is privileged, and none names an ancillary register. -/
theorem fpop_eq_false_of_needsSupervisor (h : NeedsSupervisor s i) : i.fpop = false := by
  obtain hprivileged | ⟨n, a, ⟨rd, low, rfl⟩ | ⟨rs1, o, rfl⟩, -⟩ := h
  · cases i
    case ldsba | ldsha | lduba | lduha | lda | ldda | stba | stha | sta | stda | stdfq | stdcq | ldstuba | swapa | rett
        | rdpsr | rdwim | rdtbr | wrpsr | wrwim | wrtbr => rfl
    all_goals cases hprivileged
  · rfl
  · rfl

theorem execWord_of_unimplemented (h : IsWordOf s w i) (hi : i.mnemonic ∈ s.cfg.unimplemented) :
    execWord w s = execUnimplemented i s := by
  rw [execWord_of_isWordOf h, if_pos (unimplementedInHardware_iff.mpr hi)]

theorem execUnimplemented_fpop (h : i.fpop = true) : execUnimplemented i s = fpopUnimplemented s := by
  rw [execUnimplemented, isFpop_eq_fpop, if_pos h]

theorem execUnimplemented_illegal (hi : i.fpop = false) (hs : NeedsSupervisor s i → s.seenS = true) :
    execUnimplemented i s = .next (s.trap .illegalInstruction) := by
  have hallowed : (needsSupervisor i s && !s.seenS) = false := by simpa [needsSupervisor_iff] using hs
  simp [execUnimplemented, isFpop_eq_fpop, hi, hallowed, State.raise]

theorem execUnimplemented_privileged (hi : NeedsSupervisor s i) (hs : s.seenS = false) :
    execUnimplemented i s = .next (s.trap .privilegedInstruction) := by
  simp [execUnimplemented, isFpop_eq_fpop, fpop_eq_false_of_needsSupervisor hi, (needsSupervisor_iff s i).mpr hi, hs,
    State.raise]

end Sys2Proof.Machine

namespace Sys2Proof

open Machine

/-- Settles O8: each part is the lemma about its cause. -/
theorem fetchedWordsTrap : Obligations.FetchedWordsTrap := by
  refine ⟨fun s x hfirst hx => step_of_fetch_trap hfirst hx, fun s w hw => execWord_unassigned hw,
    fun s w hw hready het hp => ?_, fun s w i hdecode hunused h => execWord_of_registerTrap hdecode hunused h,
    fun s w i hw hi hfpop hs => ?_, fun s w i hw hi hprivileged hs => ?_, fun s w i hw hi hfpop hready het hp => ?_⟩
  · rw [execWord_unassignedFpop hw]
    exact fpopUnimplemented_entered hready het hp
  · rw [execWord_of_unimplemented hw hi, execUnimplemented_illegal hfpop hs]
  · rw [execWord_of_unimplemented hw hi, execUnimplemented_privileged hprivileged hs]
  · rw [execWord_of_unimplemented hw hi, execUnimplemented_fpop hfpop]
    exact fpopUnimplemented_entered hready het hp

end Sys2Proof
end

section
/-! STBAR, UNIMP and FLUSH: what each does to the state, and how the copies of a flushed doubleword leave the instruction buffer
while the instructions after the FLUSH retire. -/

namespace Sys2Proof.Machine

variable {s : State} {rs1 : RegNum} {o : Operand2}

/-! ### FLUSH by FLUSH_TRAP (48 R398, D23) -/

theorem exec_flush_executes (h : s.cfg.flushMode = .executes) :
    exec (.flush rs1 o) s = .next (s.advance.flushDword (s.effectiveAddress rs1 o)) := by
  simp only [exec, execFlush, h]

theorem exec_flush_unimplemented (h : s.cfg.flushMode = .unimplementedFlush) :
    exec (.flush rs1 o) s = .next (s.trap .unimplementedFlush) := by
  simp only [exec, execFlush, h, State.raise]

theorem exec_flush_illegal (h : s.cfg.flushMode = .illegalInstruction) :
    exec (.flush rs1 o) s = .next (s.trap .illegalInstruction) := by
  simp only [exec, execFlush, h, State.raise]

theorem State.flushDword_frame (s : State) (a : Word) : Frame [.clock] s (s.flushDword a) := by
  intro p hp
  cases p
  case clock => simp at hp
  case intRegs => exact State.readRW_congr rfl rfl rfl
  case fRegs => exact State.readF_congr rfl
  all_goals simp [Part.same]

/-- A FLUSH that executes retires first. -/
theorem flush_frame (s : State) (a : Word) : Frame [.counters, .clock] s (s.advance.flushDword a) :=
  s.advance_frame.trans (s.advance.flushDword_frame a) (by decide) (by decide)

/-! ### Copies that a FLUSH has doomed (20 R88; log 27) -/

/-- The copies of the doubleword at a key are gone after `n` more instructions: a count of 0 goes with the next instruction, as
a count of 1 does. -/
def DoomedWithin (key n : Nat) (s : State) : Prop :=
  ∀ c ∈ s.ibuf, c.key = key → ∃ m, c.flushLeft = some m ∧ m - 1 < n

theorem flushDword_doomed (s : State) (a : Word) :
    DoomedWithin (dwordKey (Memory.key ((s.bankOf s.instrAsi).getD 0) a)) 5 (s.flushDword a) := by
  intro c hc hkey
  obtain ⟨d, -, rfl⟩ := List.mem_map.mp (show c ∈ s.ibuf.map _ from hc)
  split at hkey
  case isTrue hd =>
    rw [if_pos hd]
    exact ⟨_, rfl, by omega⟩
  case isFalse hd => exact absurd hkey hd

/-- One instruction further on a copy is the same one with the count, if it has one, one lower. -/
theorem StaleDword.age_eq_some {c d : StaleDword} {m : Nat} (hm : c.flushLeft = some m) (h : c.age = some d) :
    d.key = c.key ∧ d.flushLeft = some (m - 1) ∧ 1 < m := by
  simp only [StaleDword.age, hm] at h
  split at h
  case isTrue => cases h
  case isFalse hle =>
    obtain rfl := Option.some.inj h
    exact ⟨rfl, rfl, by omega⟩

theorem StaleDword.age_key {c d : StaleDword} (h : c.age = some d) : d.key = c.key := by
  cases hm : c.flushLeft with
  | none =>
    simp only [StaleDword.age, hm] at h
    rw [Option.some.inj h]
  | some m => exact (StaleDword.age_eq_some hm h).1

theorem advance_doomed {key n : Nat} (h : DoomedWithin key (n + 1) s) : DoomedWithin key n s.advance := by
  intro d hd hkey
  obtain ⟨c, hc, hage⟩ := List.mem_filterMap.mp (show d ∈ s.ibuf.filterMap StaleDword.age from hd)
  obtain ⟨m, hm, hlt⟩ := h c hc ((StaleDword.age_key hage).symm.trans hkey)
  obtain ⟨-, hleft, hone⟩ := StaleDword.age_eq_some hm hage
  exact ⟨m - 1, hleft, by omega⟩

/-- Each NOP brings the copies one instruction nearer to their end. -/
theorem execAll_nops_doomed {key n : Nat} (h : DoomedWithin key n s) :
    ∃ t, execAll (List.replicate n .nop) s = .next t ∧ ∀ c ∈ t.ibuf, c.key ≠ key := by
  induction n generalizing s with
  | zero => exact ⟨s, rfl, fun c hc hkey => by obtain ⟨m, -, hlt⟩ := h c hc hkey; omega⟩
  | succ n ih => exact ih (advance_doomed h)

/-- With no window open and no doubt about the fetches, FLUSH acts in the space that S selects. -/
theorem State.instrAsi_advance (hp : s.pending = []) (hdoubt : s.fetchDoubt = false) :
    s.advance.instrAsi = if s.psr.s then 0x09 else 0x08 := by
  have hclosed : s.advance.pending = [] := by simp [State.advance, State.retire, hp]
  obtain ⟨-, -, -, -, hs, -⟩ := State.seen_of_noPending hclosed
  simp [State.instrAsi, State.fetchSupervisor, hdoubt, hs]

theorem State.bankOf_advance (s : State) (asi : Asi) : s.advance.bankOf asi = s.bankOf asi := rfl

end Sys2Proof.Machine

namespace Sys2Proof

open Machine

/-- The FLUSH dooms the copies within five instructions, and the five NOPs are these. -/
theorem flush_nops_noCopy {s : State} (rs1 : RegNum) (o : Operand2) (hmode : s.cfg.flushMode = .executes)
    (hp : s.pending = []) (hdoubt : s.fetchDoubt = false) :
    ∃ t, execAll [.flush rs1 o, .nop, .nop, .nop, .nop, .nop] s = .next t ∧
      ∀ b, s.bankOf (if s.psr.s then 0x09 else 0x08) = some b →
        ∀ c ∈ t.ibuf, c.key ≠ Memory.key b (s.effectiveAddress rs1 o) / 8 * 8 := by
  have hdoomed := flushDword_doomed s.advance (s.effectiveAddress rs1 o)
  rw [State.instrAsi_advance hp hdoubt, State.bankOf_advance] at hdoomed
  obtain ⟨t, hnops, hgone⟩ := execAll_nops_doomed hdoomed
  refine ⟨t, ?_, fun b hb => ?_⟩
  · rw [execAll, exec_flush_executes hmode]
    exact hnops
  · rwa [hb] at hgone

/-- Settles O39: STBAR is `advance`, UNIMP its trap, FLUSH by the cases of FLUSH_TRAP and by the count of its copies. -/
theorem barrierUnimpFlush : Obligations.BarrierUnimpFlush := by
  refine ⟨fun s => ⟨s.advance, rfl, s.advance_advanced, s.advance_frame⟩, fun _ _ _ => rfl, fun s rs1 o => ?_,
    fun _ rs1 o => flush_nops_noCopy rs1 o⟩
  cases hmode : s.cfg.flushMode with
  | executes => exact ⟨_, exec_flush_executes hmode, s.advance_advanced, flush_frame s _⟩
  | unimplementedFlush => exact exec_flush_unimplemented hmode
  | illegalInstruction => exact exec_flush_illegal hmode

end Sys2Proof
end

section
/-! Doubleword loads and stores of register pairs: the odd rd that traps in either form, the pair as a number, and what each
access does where it completes. -/

namespace Sys2Proof.Machine

variable {s : State} {rd rs1 : RegNum} {form : Make3 × MakeAlt → Instr} {asi : Asi} {ea : Word}

/-! ### An odd rd (D17) -/

theorem oddRdTrap_of_odd (htraps : s.cfg.oddRdTraps = true) (hodd : rd.toNat % 2 = 1) : oddRdTrap s true rd = true := by
  simp [oddRdTrap, htraps, (getLsbD_zero_iff rd).mpr hodd]

/-- Either form of a doubleword access traps at an odd rd, before it reads its address. -/
theorem Performs.exec_oddRd {mk : Make3} {mkAlt : MakeAlt} {k : Asi → Word → State → Out}
    (hk : Performs mk mkAlt true rd k) (hform : Accesses s rd rs1 form asi ea) (hd : oddRdTrap s true rd = true) :
    exec (form (mk, mkAlt)) s = .next (s.trap .illegalInstruction) := by
  obtain ⟨hordinary, halternate⟩ := hk rs1 s
  obtain ⟨o, rfl, rfl, rfl⟩ | ⟨hs, rs2, rfl, rfl⟩ := hform
  · rw [hordinary, ordinary, if_pos hd, State.raise]
  · simp only [halternate, alternate, hs, hd, Bool.not_true, Bool.false_eq_true, if_false, if_true, State.raise]

/-! ### Loads (40 R146, R152) -/

theorem State.writeRPair_advance_complete (s : State) (rd : RegNum) (v : Dword) :
    PairWritten s (s.writeRPair rd v).advance s.seenCwp rd v ∧ Advanced s (s.writeRPair rd v).advance ∧
      Frame [.counters, .intRegs, .clock] s (s.writeRPair rd v).advance :=
  ⟨s.readRW_writeRPair rd v, (s.writeRPair_frame rd v).advanced (by decide),
    (s.writeRPair_frame rd v).trans (s.writeRPair rd v).advance_frame (by decide) (by decide)⟩

theorem exec_loadDouble (hform : Accesses s rd rs1 form asi ea) (hd : oddRdTrap s true rd = false) {k v : Nat}
    (ha : ea.toNat % 8 = 0) (hl : s.locate .read asi ea 8 s.seenS = .found k) (hb : BytesAt s.mem k 8 v) :
    ∃ t, exec (form (.ldd, .ldda)) s = .next t ∧ PairWritten s t s.seenCwp rd (BitVec.ofNat 64 v) ∧ Advanced s t ∧
      Frame [.counters, .intRegs, .clock] s t := by
  refine ⟨_, ?_, s.writeRPair_advance_complete rd _⟩
  rw [(performs_ldd rd).exec_eq hform hd, loadDouble, loadAt_complete ha hl (Memory.read8_of_bytesAt hb)]

/-! ### Stores (41 R174, R178) -/

/-- The even register is the more significant word of the pair (R24). -/
theorem State.readRPair_toNat (s : State) (n : RegNum) :
    (s.readRPair n).toNat = (s.readR (evenReg n)).toNat * 2 ^ 32 + (s.readR (oddReg n)).toNat := by
  rw [State.readRPair, BitVec.toNat_append, ← Nat.shiftLeft_add_eq_or_of_lt (s.readR (oddReg n)).isLt,
    Nat.shiftLeft_eq]

theorem exec_storePair (hform : Accesses s rd rs1 form asi ea) (hd : oddRdTrap s true rd = false) {k : Nat}
    (ha : ea.toNat % 8 = 0) (hl : s.locate .write asi ea 8 s.seenS = .found k) :
    ∃ t, exec (form (.std, .stda)) s = .next t ∧
      Stored s t k 8 ((s.readR (evenReg rd)).toNat * 2 ^ 32 + (s.readR (oddReg rd)).toNat) ∧ Advanced s t ∧
      Frame [.counters, .memory, .clock] s t := by
  have hframe : Frame [.memory, .clock] s (s.store8 k (s.readRPair rd)) := s.noteStore_frame k _
  refine ⟨(s.store8 k (s.readRPair rd)).advance, ?_, ?_, hframe.advanced (by decide),
    hframe.trans (State.advance_frame _) (by decide) (by decide)⟩
  · rw [(performs_std rd).exec_eq hform hd, storePair, storeAt_complete ha hl]
  · rw [← s.readRPair_toNat rd]
    exact s.store8_stored k (s.readRPair rd)

end Sys2Proof.Machine

namespace Sys2Proof

open Machine

/-- Settles O41: either form is the one access of the pair, behind the check of an odd rd. -/
theorem doubleLoadsStores : Obligations.DoubleLoadsStores := by
  intro s rd rs1 rs2 o asi k v
  have hordinary := accesses_ordinary s rd rs1 o
  have halternate := fun hs => accesses_alternate (s := s) hs rd rs1 rs2 asi
  dsimp only
  split
  case isTrue hodd =>
    have hd := oddRdTrap_of_odd hodd.left hodd.right
    exact ⟨(performs_ldd rd).exec_oddRd hordinary hd, (performs_std rd).exec_oddRd hordinary hd,
      fun hs => ⟨(performs_ldd rd).exec_oddRd (halternate hs) hd, (performs_std rd).exec_oddRd (halternate hs) hd⟩⟩
  case isFalse heven =>
    have hd : oddRdTrap s true rd = false := oddRdTrap_of_even fun _ htraps => by
      have := mt (And.intro htraps) heven
      omega
    exact ⟨exec_loadDouble hordinary hd, fun hs => exec_loadDouble (halternate hs) hd, exec_storePair hordinary hd,
      fun hs => exec_storePair (halternate hs) hd⟩

end Sys2Proof
end

section
/-! The floating-point queue and STDFQ: what removing the front entry changes, when the store raises sequence_error, and what
it does with a front entry. -/

namespace Sys2Proof.Machine

variable {s : State} {rd rs1 : RegNum} {o : Operand2} {asi : Asi} {ea : Word}

/-! ### Removing the front entry (41 R183; log 18) -/

theorem State.popFq_fq (s : State) : s.popFq.fq = if s.cfg.stdfqPops then s.fq.tail else s.fq := by
  unfold State.popFq; split <;> rfl

@[simp] theorem State.popFq_fpPending (s : State) : s.popFq.fpPending = s.fpPending := by
  unfold State.popFq; split <;> rfl

@[simp] theorem State.popFq_mem (s : State) : s.popFq.mem = s.mem := by
  unfold State.popFq; split <;> rfl

/-- Any new contents of the queue. -/
theorem State.fq_frame (s : State) (q : List Dword) : Frame [.fpQueue] s { s with fq := q } := by
  intro p hp
  cases p
  case fpQueue => simp at hp
  case intRegs => exact State.readRW_congr rfl rfl rfl
  case fRegs => exact State.readF_congr rfl
  all_goals simp [Part.same]

theorem State.popFq_frame (s : State) : Frame [.fpQueue] s s.popFq := by
  unfold State.popFq
  split
  case isTrue => exact s.fq_frame _
  case isFalse => exact Frame.refl s

/-! ### The store of the front entry (41 R183) -/

theorem storeFq_of_noEntry (h : s.cfg.fqPresent = false ∨ s.fq = []) : storeFq asi ea s = s.raiseFp 4 := by
  unfold storeFq
  cases hpresent : s.cfg.fqPresent
  case false => rfl
  case true =>
    have hempty : s.fq = [] := h.resolve_left (by simp [hpresent])
    simp [hempty]

theorem storeFq_of_front {d : Dword} {rest : List Dword} (hpresent : s.cfg.fqPresent = true) (hfront : s.fq = d :: rest) :
    storeFq asi ea s = storeAt 8 (fun key t => (t.store8 key d).popFq) spoilFirstWord asi ea s := by
  simp [storeFq, hpresent, hfront]

/-- What a completed store of the front entry leaves before `advance`. -/
theorem State.store8_popFq_frame (s : State) (k : Nat) (d : Dword) :
    Frame [.memory, .fpQueue, .clock] s (s.store8 k d).popFq :=
  Frame.trans (s.noteStore_frame k _) (State.popFq_frame _) (by decide) (by decide)

/-! ### STDFQ -/

/-- In supervisor mode, with floating point enabled and an aligned address, STDFQ is its access. -/
theorem exec_stdfq (hs : s.seenS = true) (he : s.fpEnabled = true) (ha : (s.effectiveAddress rs1 o).toNat % 8 = 0) :
    exec (.stdfq rd rs1 o) s = storeFq s.dataAsi (s.effectiveAddress rs1 o) s := by
  rw [exec, execStdfq]
  exact fpAccess_complete (fun _ => hs) he ha nofun nofun

end Sys2Proof.Machine

namespace Sys2Proof

open Machine

/-- Settles O46: without an entry the access is sequence_error, with one it is the store of the entry and its removal. -/
theorem queueStore : Obligations.QueueStore := by
  intro s rd rs1 o hs hef hfpu ha
  rw [exec_stdfq hs (State.fpEnabled_of_present hef hfpu) ha]
  refine ⟨fun hnoEntry het hp => ?_, fun d rest k hpresent hfront hl => ?_⟩
  · obtain ⟨-, -, -, -, -, -, hseen, -⟩ := State.seen_of_noPending hp
    rw [storeFq_of_noEntry hnoEntry]
    exact State.raiseFp_entered (hseen.trans het) hp 4
  · have hframe := s.store8_popFq_frame k d
    refine ⟨(s.store8 k d).popFq.advance, ?_, ?_, ?_, ?_, hframe.advanced (by decide),
      hframe.trans (State.advance_frame _) (by decide) (by decide)⟩
    · rw [storeFq_of_front hpresent hfront, storeAt_complete ha hl]
    · simpa [Stored] using s.store8_stored k d
    · simp [State.popFq_fq, hfront]
    · simp

end Sys2Proof
end

section
/-! LDSTUB and SWAP: a store of memory followed by a write of r[rd], as one access. The register is written in the state after
the store, and what it is claimed of is the state before. -/

namespace Sys2Proof.Machine

variable {s t u : State} {rd rs1 : RegNum} {form : Make3 × MakeAlt → Instr} {asi : Asi} {ea : Word} {k n v : Nat}

/-! ### One update after another (42 R200) -/

theorem sameReg_of_config (h : Part.config.same s t) (w : BitVec 5) (m : RegNum) (w' : BitVec 5) (n : RegNum) :
    sameReg t w m w' n = sameReg s w m w' n := by
  have hcfg : t.cfg = s.cfg := h
  simp only [sameReg, State.cell, State.nWindows, hcfg]

/-- A register write after an update that leaves the registers alone is one write of both. -/
theorem regWritten_of_frame {cs : List Part} (hframe : Frame cs s t) (hcfg : .config ∉ cs) (hregs : .intRegs ∉ cs)
    {w : BitVec 5} {x : Word} (h : RegWritten t u w rd x) : RegWritten s u w rd x := by
  intro w' m
  rw [h w' m, sameReg_of_config (hframe _ hcfg), hframe .intRegs hregs w' m]

/-- What holds the same memory holds the same stored bytes. -/
theorem stored_of_mem_eq (h : Stored s t k n v) (hmem : u.mem = t.mem) : Stored s u k n v := by
  intro j
  rw [hmem, h j]

/-- A store moves no window, nor the value that an open window of the PSR shows (70 R524). -/
theorem State.seenCwp_noteStore (s : State) (k : Nat) (m : Memory) :
    ({ s.noteStore k with mem := m } : State).seenCwp = s.seenCwp := by
  simp [State.seenCwp, State.psrOpen, State.openMask, State.drawWindow, State.draw, State.window, State.nWindows]

/-- A store of any width, then r[rd], then the end of the instruction. -/
theorem exchange_complete {m : Memory} (hstored : Stored s t k n v) (ht : t = { s.noteStore k with mem := m }) (rd : RegNum)
    (old : Word) :
    RegWritten s (t.writeR rd old).advance s.seenCwp rd old ∧ Stored s (t.writeR rd old).advance k n v ∧
      Advanced s (t.writeR rd old).advance ∧
      Frame [.counters, .intRegs, .memory, .clock] s (t.writeR rd old).advance := by
  have hstore : Frame [.memory, .clock] s t := ht ▸ s.noteStore_frame k m
  have hcwp : t.seenCwp = s.seenCwp := ht ▸ s.seenCwp_noteStore k m
  have hboth : Frame [.intRegs, .memory, .clock] s (t.writeR rd old) :=
    hstore.trans (t.writeR_frame rd old) (by decide) (by decide)
  have hwritten : RegWritten t (t.writeR rd old).advance s.seenCwp rd old := hcwp ▸ t.readRW_writeR rd old
  exact ⟨regWritten_of_frame hstore (by decide) (by decide) hwritten, stored_of_mem_eq hstored (by simp),
    hboth.advanced (by decide), hboth.trans (State.advance_frame _) (by decide) (by decide)⟩

/-! ### The two exchanges, in either form (42 R201 to R204) -/

theorem exec_loadStoreByte (hform : Accesses s rd rs1 form asi ea) (hl : s.locate .atomic asi ea 1 s.seenS = .found k)
    (hb : BytesAt s.mem k 1 v) (hv : v < 256) :
    ∃ t, exec (form (.ldstub, .ldstuba)) s = .next t ∧ RegWritten s t s.seenCwp rd (BitVec.ofNat 32 v) ∧
      Stored s t k 1 0xFF ∧ Advanced s t ∧ Frame [.counters, .intRegs, .memory, .clock] s t := by
  refine ⟨_, ?_, exchange_complete (s.store1_stored k 0xFF) rfl rd _⟩
  rw [(performs_ldstub rd).exec_eq hform rfl, loadStoreByte,
    atomicAt_complete (Nat.mod_one _) hl (Memory.read1_of_bytesAt hb), zext_ofNat hv]

theorem exec_swapWord (hform : Accesses s rd rs1 form asi ea) (ha : ea.toNat % 4 = 0)
    (hl : s.locate .atomic asi ea 4 s.seenS = .found k) (hb : BytesAt s.mem k 4 v) :
    ∃ t, exec (form (.swap, .swapa)) s = .next t ∧ RegWritten s t s.seenCwp rd (BitVec.ofNat 32 v) ∧
      Stored s t k 4 (s.readR rd).toNat ∧ Advanced s t ∧ Frame [.counters, .intRegs, .memory, .clock] s t := by
  refine ⟨_, ?_, exchange_complete (s.store4_stored k (s.readR rd)) rfl rd _⟩
  rw [(performs_swap rd).exec_eq hform rfl, swapWord, atomicAt_complete ha hl (Memory.read4_of_bytesAt hb)]

end Sys2Proof.Machine

namespace Sys2Proof

open Machine

/-- Settles O43: either form of either instruction is its one exchange. -/
theorem atomicExchanges : Obligations.AtomicExchanges := by
  intro s rd rs1 k v
  refine ⟨fun o => ?_, fun asi rs2 hs => ?_⟩
  · have hform := accesses_ordinary s rd rs1 o
    exact ⟨exec_loadStoreByte hform, exec_swapWord hform⟩
  · have hform := accesses_alternate hs rd rs1 rs2 asi
    exact ⟨exec_loadStoreByte hform, exec_swapWord hform⟩

end Sys2Proof
end

section
/-! Instructions that leave one result in r[rd]: NOP, SETHI, the logical instructions and the shifts. Each is one shared
operation of 43_sethi_logical_shift, which ends as every write of r[rd] does; what is left is the result as a number. -/

namespace Sys2Proof.Machine

/-! ### SETHI (43 R210) -/

/-- Ten zero bits below a bit vector are a multiplication by 2^10. -/
theorem append_zeros_eq_ofNat (imm22 : BitVec 22) : imm22 ++ 0#10 = BitVec.ofNat 32 (imm22.toNat * 2 ^ 10) := by
  apply BitVec.eq_of_toNat_eq
  have hfits : imm22.toNat * 2 ^ 10 < 2 ^ 32 := by omega
  rw [BitVec.toNat_append, Nat.shiftLeft_eq, BitVec.toNat_ofNat (imm22.toNat * 2 ^ 10), Nat.mod_eq_of_lt hfits]
  simp

/-! ### The logical instructions (43 R212) -/

/-- The plain form and the cc form of a row perform the row's operation. -/
theorem exec_of_mem_logicals {e : Make3 × Make3 × (Word → Word → Word)} (he : e ∈ logicals) (rd rs1 : RegNum)
    (o : Operand2) (s : State) :
    exec (e.1 rd rs1 o) s = logical e.2.2 rd rs1 o s ∧ exec (e.2.1 rd rs1 o) s = logicalCc e.2.2 rd rs1 o s := by
  simp only [logicals, List.mem_cons, List.not_mem_nil, or_false] at he
  obtain rfl | rfl | rfl | rfl | rfl | rfl := he <;> exact ⟨rfl, rfl⟩

/-! ### The shifts (43 R226 to R228) -/

theorem sll_toNat (a : Word) (n : Nat) : (a <<< n).toNat = a.toNat * 2 ^ n % 2 ^ 32 := by
  rw [BitVec.toNat_shiftLeft, Nat.shiftLeft_eq]

theorem srl_toNat (a : Word) (n : Nat) : (a >>> n).toNat = a.toNat / 2 ^ n := by
  rw [BitVec.toNat_ushiftRight, Nat.shiftRight_eq_div_pow]

/-- Division of integers by a positive number rounds down. -/
theorem sra_toInt (a : Word) (n : Nat) : (a.sshiftRight n).toInt = a.toInt / 2 ^ n := by
  rw [BitVec.toInt_sshiftRight, Int.shiftRight_eq_div_pow]
  simp

/-- The word that a row's shift computes stands in the row's relation to operand and count. -/
theorem exec_of_mem_shifts {e : (RegNum → RegNum → ShiftCount → Instr) × (Word → Nat → Word → Prop)} (he : e ∈ shifts)
    (rd rs1 : RegNum) (c : ShiftCount) (s : State) :
    ∃ f, exec (e.1 rd rs1 c) s = shift f rd rs1 c s ∧ ∀ a n, e.2 a n (f a n) := by
  simp only [shifts, List.mem_cons, List.not_mem_nil, or_false] at he
  obtain rfl | rfl | rfl := he
  · exact ⟨_, rfl, sll_toNat⟩
  · exact ⟨_, rfl, srl_toNat⟩
  · exact ⟨_, rfl, sra_toInt⟩

end Sys2Proof.Machine

namespace Sys2Proof

open Machine

/-- Settles O18: NOP is `advance` alone. -/
theorem nopAdvances : Obligations.NopAdvances :=
  fun s => ⟨s.advance, rfl, s.advance_advanced, s.advance_frame⟩

/-- Settles O19: SETHI writes its immediate above ten zero bits. -/
theorem sethiResult : Obligations.SethiResult := by
  intro s rd imm22
  rw [← append_zeros_eq_ofNat]
  exact ⟨_, rfl, s.writeR_advance_complete rd _⟩

/-- Settles O20: each row writes its operation of the two operands. -/
theorem logicalResults : Obligations.LogicalResults := by
  intro e he s rd rs1 o
  exact ⟨_, (exec_of_mem_logicals he rd rs1 o s).1, s.writeR_advance_complete rd _⟩

/-- Settles O21: each row writes a word that stands in its relation. -/
theorem shiftResults : Obligations.ShiftResults := by
  intro e he s rd rs1 c
  obtain ⟨f, hexec, hresult⟩ := exec_of_mem_shifts he rd rs1 c s
  exact ⟨_, _, hexec, hresult _ _, s.writeR_advance_complete rd _⟩

end Sys2Proof
end

section
/-! The cc forms. Condition codes computed from the bits of operands and result, as 43 R212 and 44 R240, R241 write them, are
those of the exact values: N and V speak of the signed numbers, C of the unsigned ones. -/

namespace Sys2Proof.Machine

/-! ### Writing r[rd] and icc -/

theorem State.writeIcc_frame (s : State) (i : Icc) : Frame [.icc, .clock] s (s.writeIcc i) := by
  intro p hp
  cases p
  case icc | clock => simp at hp
  case fRegs => exact State.readF_congr (s.writeIcc_f i)
  all_goals simp [Part.same]

theorem State.inWindow_writeR (s : State) (rd : RegNum) (v : Word) (r : StateReg) :
    (s.writeR rd v).inWindow r = s.inWindow r := by
  simp [State.inWindow]

theorem State.writeR_writeIcc_complete (s : State) (rd : RegNum) (v : Word) (i : Icc) :
    RegWritten s ((s.writeR rd v).writeIcc i).advance s.seenCwp rd v ∧
      IccWritten s ((s.writeR rd v).writeIcc i).advance i ∧ Advanced s ((s.writeR rd v).writeIcc i).advance ∧
      Frame [.counters, .intRegs, .icc, .clock] s ((s.writeR rd v).writeIcc i).advance := by
  have hboth : Frame [.intRegs, .icc, .clock] s ((s.writeR rd v).writeIcc i) :=
    (s.writeR_frame rd v).trans ((s.writeR rd v).writeIcc_frame i) (by decide) (by decide)
  refine ⟨fun u m => ?_, fun hw => ?_, hboth.advanced (by decide),
    hboth.trans (State.advance_frame _) (by decide) (by decide)⟩
  · rw [State.readRW_advance, State.readRW_writeIcc, s.readRW_writeR rd v u m]
  · rw [State.advance_psr, (s.writeR rd v).writeIcc_written i (s.inWindow_writeR rd v .psr ▸ hw)]

/-! ### The sign bit -/

theorem signBit_eq_toInt_neg (w : Word) : w.getLsbD 31 = decide (w.toInt < 0) :=
  w.msb_eq_getLsbD_last.symm.trans w.msb_eq_toInt

theorem signBit_eq_toNat_ge (w : Word) : w.getLsbD 31 = decide (2 ^ 31 ≤ w.toNat) :=
  w.msb_eq_getLsbD_last.symm.trans w.msb_eq_decide

/-- The condition codes of a logical result (43 R212, D28). -/
theorem logicIcc_eq_plainIcc (w : Word) : logicIcc w = plainIcc w false := by
  rw [logicIcc, plainIcc, signBit_eq_toInt_neg]; rfl

/-! ### Sums and differences as words (44 R243, R245, R250, R252) -/

theorem add_word_eq (a b : Word) (c : Bool) : Sum.add.word a b c = a + b + (BitVec.ofBool c).setWidth 32 := by
  cases c <;> simp [Sum.word, Sum.add, BitVec.ofInt_add]

theorem sub_word_eq (a b : Word) (c : Bool) : Sum.sub.word a b c = a - b - (BitVec.ofBool c).setWidth 32 := by
  cases c <;> simp [Sum.word, Sum.sub, sub_eq_add_neg, BitVec.ofInt_add, BitVec.ofInt_neg]

/-! ### V as signed overflow, C as carry or borrow (44 R240, R241) -/

theorem toInt_range (w : Word) : -2 ^ 31 ≤ w.toInt ∧ w.toInt < 2 ^ 31 := ⟨w.le_toInt, w.toInt_lt⟩

/-- The signed value of the word and the exact value differ by a multiple of 2^32. -/
theorem word_wraps (f : Sum) (a b : Word) (c : Bool) :
    ∃ k, (f.word a b c).toInt + 2 ^ 32 * k = f.exact a.toInt b.toInt c.toNat := by
  refine ⟨(f.exact a.toInt b.toInt c.toNat).bdiv (2 ^ 32), ?_⟩
  rw [Sum.word, BitVec.toInt_ofInt]
  exact Int.bmod_add_bdiv _ _

theorem overflows_iff (f : Sum) (a b : Word) (c : Bool) :
    f.overflows a b c = true ↔ f.exact a.toInt b.toInt c.toNat ≠ (f.word a b c).toInt :=
  bne_iff_ne

/-- Two operands of one sign and a result of the other are what a sum beyond 32 bits leaves. -/
theorem addIcc_v (a b : Word) (c : Bool) : (addIcc a b (Sum.add.word a b c)).v = Sum.add.overflows a b c := by
  obtain ⟨k, hwraps⟩ := word_wraps .add a b c
  have hc := c.toNat_le
  have ha := toInt_range a
  have hb := toInt_range b
  have hr := toInt_range (Sum.add.word a b c)
  rw [Bool.eq_iff_iff, overflows_iff]
  generalize Sum.add.word a b c = r at *
  simp only [Sum.add] at *
  simp only [addIcc, signBit_eq_toInt_neg, Bool.or_eq_true, Bool.and_eq_true, Bool.not_eq_true', decide_eq_true_eq,
    decide_eq_false_iff_not]
  omega

/-- Operands of different signs and a result not of the first one's are what a difference beyond 32 bits leaves. -/
theorem subIcc_v (a b : Word) (c : Bool) : (subIcc a b (Sum.sub.word a b c)).v = Sum.sub.overflows a b c := by
  obtain ⟨k, hwraps⟩ := word_wraps .sub a b c
  have hc := c.toNat_le
  have ha := toInt_range a
  have hb := toInt_range b
  have hr := toInt_range (Sum.sub.word a b c)
  rw [Bool.eq_iff_iff, overflows_iff]
  generalize Sum.sub.word a b c = r at *
  simp only [Sum.sub] at *
  simp only [subIcc, signBit_eq_toInt_neg, Bool.or_eq_true, Bool.and_eq_true, Bool.not_eq_true', decide_eq_true_eq,
    decide_eq_false_iff_not]
  omega

theorem add_word_toNat (a b : Word) (c : Bool) :
    (Sum.add.word a b c).toNat = (a.toNat + b.toNat + c.toNat) % 2 ^ 32 := by
  rw [add_word_eq]
  cases c <;> simp

theorem sub_word_toNat (a b : Word) (c : Bool) :
    (Sum.sub.word a b c).toNat = (2 * 2 ^ 32 + a.toNat - b.toNat - c.toNat) % 2 ^ 32 := by
  rw [sub_word_eq]
  cases c <;> simp [BitVec.toNat_sub] <;> omega

theorem add_carries_iff (a b c : Nat) : Sum.add.carries a b c = true ↔ 2 ^ 32 ≤ a + b + c := decide_eq_true_iff

theorem sub_carries_iff (a b c : Nat) : Sum.sub.carries a b c = true ↔ a < b + c := decide_eq_true_iff

theorem addIcc_c (a b : Word) (c : Bool) :
    (addIcc a b (Sum.add.word a b c)).c = Sum.add.carries a.toNat b.toNat c.toNat := by
  have hc := c.toNat_le
  rw [Bool.eq_iff_iff, add_carries_iff]
  simp only [addIcc, signBit_eq_toNat_ge, add_word_toNat, Bool.or_eq_true, Bool.and_eq_true, Bool.not_eq_true',
    decide_eq_true_eq, decide_eq_false_iff_not]
  omega

theorem subIcc_c (a b : Word) (c : Bool) :
    (subIcc a b (Sum.sub.word a b c)).c = Sum.sub.carries a.toNat b.toNat c.toNat := by
  have hc := c.toNat_le
  rw [Bool.eq_iff_iff, sub_carries_iff]
  simp only [subIcc, signBit_eq_toNat_ge, sub_word_toNat, Bool.or_eq_true, Bool.and_eq_true, Bool.not_eq_true',
    decide_eq_true_eq, decide_eq_false_iff_not]
  omega

theorem addIcc_eq (a b : Word) (c : Bool) :
    addIcc a b (Sum.add.word a b c) = Sum.add.icc a b c (Sum.add.overflows a b c) := by
  rw [Sum.icc, ← addIcc_v, ← addIcc_c, ← signBit_eq_toInt_neg]
  rfl

theorem subIcc_eq (a b : Word) (c : Bool) :
    subIcc a b (Sum.sub.word a b c) = Sum.sub.icc a b c (Sum.sub.overflows a b c) := by
  rw [Sum.icc, ← subIcc_v, ← subIcc_c, ← signBit_eq_toInt_neg]
  rfl

/-! ### The rows of the tables -/

/-- What `arithCc` writes where its operation is a row's sum and its condition codes are the exact values'. -/
def PerformsSum (f : Sum) (c : Bool) (op : Word → Word → Word) (icc : Word → Word → Word → Icc) : Prop :=
  ∀ a b, op a b = f.word a b c ∧ icc a b (f.word a b c) = f.icc a b c (f.overflows a b c)

theorem performsSum_add : PerformsSum .add false (fun a b => a + b) addIcc :=
  fun a b => ⟨by simp [add_word_eq], addIcc_eq a b false⟩

theorem performsSum_addx (s : State) : PerformsSum .add s.seenIcc.c (fun a b => a + b + s.carry) addIcc :=
  fun a b => ⟨(add_word_eq a b _).symm, addIcc_eq a b _⟩

theorem performsSum_sub : PerformsSum .sub false (fun a b => a - b) subIcc :=
  fun a b => ⟨by simp [sub_word_eq], subIcc_eq a b false⟩

theorem performsSum_subx (s : State) : PerformsSum .sub s.seenIcc.c (fun a b => a - b - s.carry) subIcc :=
  fun a b => ⟨(sub_word_eq a b _).symm, subIcc_eq a b _⟩

/-- The plain form and the cc form of a row perform the row's sum, with the row's carry in. -/
theorem exec_of_mem_sums {e : Make3 × Make3 × Sum × Bool} (he : e ∈ sums) (rd rs1 : RegNum) (o : Operand2) (s : State) :
    ∃ op icc, PerformsSum e.2.2.1 (e.2.2.2 && s.seenIcc.c) op icc ∧ exec (e.1 rd rs1 o) s = arith op rd rs1 o s ∧
      exec (e.2.1 rd rs1 o) s = arithCc op icc rd rs1 o s := by
  simp only [sums, List.mem_cons, List.not_mem_nil, or_false] at he
  obtain rfl | rfl | rfl | rfl := he
  · exact ⟨_, _, performsSum_add, rfl, rfl⟩
  · exact ⟨_, _, performsSum_addx s, rfl, rfl⟩
  · exact ⟨_, _, performsSum_sub, rfl, rfl⟩
  · exact ⟨_, _, performsSum_subx s, rfl, rfl⟩

theorem arithCc_of_performsSum {f : Sum} {c : Bool} {op : Word → Word → Word} {icc : Word → Word → Word → Icc}
    (h : PerformsSum f c op icc) (rd rs1 : RegNum) (o : Operand2) (s : State) :
    arithCc op icc rd rs1 o s =
      .next ((s.writeR rd (f.word (s.readR rs1) (s.op2val o) c)).writeIcc
        (f.icc (s.readR rs1) (s.op2val o) c (f.overflows (s.readR rs1) (s.op2val o) c))).advance := by
  obtain ⟨hword, hicc⟩ := h (s.readR rs1) (s.op2val o)
  rw [arithCc, hword, hicc]

theorem logicalCc_eq (f : Word → Word → Word) (rd rs1 : RegNum) (o : Operand2) (s : State) :
    logicalCc f rd rs1 o s =
      .next ((s.writeR rd (f (s.readR rs1) (s.op2val o))).writeIcc
        (plainIcc (f (s.readR rs1) (s.op2val o)) false)).advance := by
  rw [logicalCc, logicIcc_eq_plainIcc]

end Sys2Proof.Machine

namespace Sys2Proof

open Machine

/-- Settles O23: each row writes its result, then the condition codes of the exact value. -/
theorem conditionCodes : Obligations.ConditionCodes := by
  refine ⟨fun e he s rd rs1 o => ?_, fun e he s rd rs1 o => ?_⟩
  · have hexec := (exec_of_mem_logicals he rd rs1 o s).2
    exact ⟨_, hexec.trans (logicalCc_eq _ rd rs1 o s), s.writeR_writeIcc_complete rd _ _⟩
  · obtain ⟨op, icc, hsum, -, hexec⟩ := exec_of_mem_sums he rd rs1 o s
    exact ⟨_, hexec.trans (arithCc_of_performsSum hsum rd rs1 o s), s.writeR_writeIcc_complete rd _ _⟩

end Sys2Proof
end

section
/-! Add, subtract and tagged arithmetic. The plain forms write the sum of their row; the tagged forms differ from the cc forms
by the tag overflow alone, which is V of TADDcc and TSUBcc and the trap condition of TADDccTV and TSUBccTV (44 R247, R254). -/

namespace Sys2Proof.Machine

/-! ### The plain forms (44 R243, R245, R250, R252) -/

theorem arith_of_performsSum {f : Sum} {c : Bool} {op : Word → Word → Word} {icc : Word → Word → Word → Icc}
    (h : PerformsSum f c op icc) (rd rs1 : RegNum) (o : Operand2) (s : State) :
    arith op rd rs1 o s = .next (s.writeR rd (f.word (s.readR rs1) (s.op2val o) c)).advance := by
  obtain ⟨hword, -⟩ := h (s.readR rs1) (s.op2val o)
  rw [arith, hword]

/-! ### Tag overflow (44 R247, R254) -/

/-- The tag is the remainder modulo 4. -/
theorem tagged_eq (a : Word) : tagged a = (a.toNat % 4 != 0) := by
  rw [Bool.eq_iff_iff, tagged, bne_iff_ne, bne_iff_ne, Ne, Ne, ← BitVec.toNat_inj, toNat_lowBits]
  rfl

theorem tagOverflowAdd_eq (a b : Word) : tagOverflowAdd a b (Sum.add.word a b false) = Sum.add.tagOverflow a b := by
  rw [tagOverflowAdd, addIcc_v, tagged_eq, tagged_eq, Sum.tagOverflow]

theorem tagOverflowSub_eq (a b : Word) : tagOverflowSub a b (Sum.sub.word a b false) = Sum.sub.tagOverflow a b := by
  rw [tagOverflowSub, subIcc_v, tagged_eq, tagged_eq, Sum.tagOverflow]

/-! ### The tagged forms (44 R248, R249, R255, R256) -/

/-- A tagged operation performs a row's sum without a carry in, and its tag overflow is the row's. -/
def PerformsTagged (f : Sum) (op : Word → Word → Word) (overflow : Word → Word → Word → Bool)
    (icc : Word → Word → Word → Icc) : Prop :=
  PerformsSum f false op icc ∧ ∀ a b, overflow a b (f.word a b false) = f.tagOverflow a b

theorem performsTagged_add : PerformsTagged .add (fun a b => a + b) tagOverflowAdd addIcc :=
  ⟨performsSum_add, tagOverflowAdd_eq⟩

theorem performsTagged_sub : PerformsTagged .sub (fun a b => a - b) tagOverflowSub subIcc :=
  ⟨performsSum_sub, tagOverflowSub_eq⟩

/-- The plain tagged form and the trapping form of a row perform the row's tagged operation. -/
theorem exec_of_mem_taggeds {e : Make3 × Make3 × Sum} (he : e ∈ taggeds) (rd rs1 : RegNum) (o : Operand2) (s : State) :
    ∃ op overflow icc, PerformsTagged e.2.2 op overflow icc ∧
      exec (e.1 rd rs1 o) s = arithCc op (fun a b res => { icc a b res with v := overflow a b res }) rd rs1 o s ∧
      exec (e.2.1 rd rs1 o) s = taggedTrap op overflow icc rd rs1 o s := by
  simp only [taggeds, List.mem_cons, List.not_mem_nil, or_false] at he
  obtain rfl | rfl := he
  · exact ⟨_, _, _, performsTagged_add, rfl, rfl⟩
  · exact ⟨_, _, _, performsTagged_sub, rfl, rfl⟩

section

variable {f : Sum} {op : Word → Word → Word} {overflow : Word → Word → Word → Bool} {icc : Word → Word → Word → Icc}

/-- The condition codes of the cc form, but for V. -/
theorem PerformsTagged.icc_eq (h : PerformsTagged f op overflow icc) (a b : Word) (v : Bool) :
    { icc a b (f.word a b false) with v := v } = f.icc a b false v := by
  obtain ⟨hsum, -⟩ := h
  rw [(hsum a b).2]
  rfl

theorem taggedCc_of_performsTagged (h : PerformsTagged f op overflow icc) (rd rs1 : RegNum) (o : Operand2) (s : State) :
    arithCc op (fun a b res => { icc a b res with v := overflow a b res }) rd rs1 o s =
      .next ((s.writeR rd (f.word (s.readR rs1) (s.op2val o) false)).writeIcc
        (f.icc (s.readR rs1) (s.op2val o) false (f.tagOverflow (s.readR rs1) (s.op2val o)))).advance := by
  have hicc := h.icc_eq
  obtain ⟨hsum, hoverflow⟩ := h
  simp only [arithCc, (hsum _ _).1, hicc, hoverflow]

theorem taggedTrap_of_performsTagged (h : PerformsTagged f op overflow icc) (rd rs1 : RegNum) (o : Operand2) (s : State) :
    taggedTrap op overflow icc rd rs1 o s =
      if f.tagOverflow (s.readR rs1) (s.op2val o) then s.raise .tagOverflow
      else .next ((s.writeR rd (f.word (s.readR rs1) (s.op2val o) false)).writeIcc
        (f.icc (s.readR rs1) (s.op2val o) false false)).advance := by
  have hicc := h.icc_eq
  obtain ⟨hsum, hoverflow⟩ := h
  simp only [taggedTrap, (hsum _ _).1, hicc, hoverflow]

end

end Sys2Proof.Machine

namespace Sys2Proof

open Machine

/-- Settles O22: each row writes its sum and nothing else. -/
theorem sumResults : Obligations.SumResults := by
  intro e he s rd rs1 o
  obtain ⟨op, icc, hsum, hexec, -⟩ := exec_of_mem_sums he rd rs1 o s
  exact ⟨_, hexec.trans (arith_of_performsSum hsum rd rs1 o s), s.writeR_advance_complete rd _⟩

/-- Settles O24: the plain form completes always; the trapping form by the cases of the row's tag overflow. -/
theorem taggedResults : Obligations.TaggedResults := by
  intro e he s rd rs1 o
  obtain ⟨op, overflow, icc, htagged, hcc, htv⟩ := exec_of_mem_taggeds he rd rs1 o s
  have htrap := htv.trans (taggedTrap_of_performsTagged htagged rd rs1 o s)
  refine ⟨⟨_, hcc.trans (taggedCc_of_performsTagged htagged rd rs1 o s), s.writeR_writeIcc_complete rd _ _⟩, ?_⟩
  split
  next hoverflow => exact htrap.trans (if_pos hoverflow)
  next hnone => exact ⟨_, htrap.trans (if_neg hnone), s.writeR_writeIcc_complete rd _ _⟩

end Sys2Proof
end

section
/-! Multiply step, multiply and divide. Each instruction writes r[rd] and Y, the cc forms icc too. The product over Y and r[rd]
is one 64-bit number reduced word by word; the quotient a divide writes is the exact one held to the range of the word. -/

namespace Sys2Proof.Machine

/-! ### Writing r[rd], Y and icc (70 R524) -/

theorem State.writeY_frame (s : State) (v : Word) : Frame [.y, .clock] s (s.writeY v) := by
  intro p hp
  cases p
  case y | clock => simp at hp
  case fRegs => exact State.readF_congr (s.writeY_f v)
  all_goals simp [Part.same]

/-- A further write inside a window leaves every window open. -/
theorem any_reg_spoil (r r' : StateReg) (field : Word) (ps : List PendingWrite) :
    (spoil r' field ps).any (fun p => p.reg == r) = ps.any (fun p => p.reg == r) := by
  have hreg (p : PendingWrite) : (if p.reg = r' then { p with changed := p.changed ||| field } else p).reg = p.reg := by
    split <;> rfl
  simp only [spoil, List.any_map, Function.comp_def, hreg]

theorem State.inWindow_writeY (s : State) (v : Word) (r : StateReg) : (s.writeY v).inWindow r = s.inWindow r := by
  unfold State.writeY
  split
  · exact any_reg_spoil r .y _ _
  · rfl

theorem State.inWindow_writeIcc (s : State) (i : Icc) (r : StateReg) : (s.writeIcc i).inWindow r = s.inWindow r := by
  unfold State.writeIcc
  split
  · exact any_reg_spoil r .psr _ _
  · rfl

theorem spoil_comm {r r' : StateReg} (hr : r ≠ r') (field field' : Word) (ps : List PendingWrite) :
    spoil r field (spoil r' field' ps) = spoil r' field' (spoil r field ps) := by
  simp only [spoil, List.map_map]
  refine List.map_congr_left fun p _ => ?_
  by_cases h : p.reg = r
  · simp [h, hr]
  · by_cases h' : p.reg = r'
    · simp [h', hr.symm]
    · simp [h, h']

/-- The two writes spoil the windows of different registers, and the free values of each are draws of their own. -/
theorem State.writeY_writeIcc_comm (s : State) (v : Word) (i : Icc) :
    (s.writeIcc i).writeY v = (s.writeY v).writeIcc i := by
  have hspoil := spoil_comm (r := .y) (r' := .psr) (by decide)
  conv_lhs => rw [State.writeY, State.inWindow_writeIcc]
  conv_rhs => rw [State.writeIcc, State.inWindow_writeY]
  cases hpsr : s.inWindow .psr <;> cases hy : s.inWindow .y
  all_goals simp [State.writeY, State.writeIcc, hpsr, hy, State.drawWord, State.draw, hspoil]

theorem State.writeR_writeY_complete (s : State) (rd : RegNum) (v y : Word) :
    RegWritten s ((s.writeR rd v).writeY y).advance s.seenCwp rd v ∧ YWritten s ((s.writeR rd v).writeY y).advance y ∧
      Advanced s ((s.writeR rd v).writeY y).advance ∧
      Frame [.counters, .intRegs, .y, .clock] s ((s.writeR rd v).writeY y).advance := by
  have hboth : Frame [.intRegs, .y, .clock] s ((s.writeR rd v).writeY y) :=
    (s.writeR_frame rd v).trans ((s.writeR rd v).writeY_frame y) (by decide) (by decide)
  refine ⟨fun u m => ?_, fun hw => ?_, hboth.advanced (by decide),
    hboth.trans (State.advance_frame _) (by decide) (by decide)⟩
  · rw [State.readRW_advance, State.readRW_writeY, s.readRW_writeR rd v u m]
  · rw [State.advance_y, (s.writeR rd v).writeY_written y (s.inWindow_writeR rd v .y ▸ hw)]

theorem State.writeR_writeY_writeIcc_complete (s : State) (rd : RegNum) (v y : Word) (i : Icc) :
    RegWritten s (((s.writeR rd v).writeY y).writeIcc i).advance s.seenCwp rd v ∧
      IccWritten s (((s.writeR rd v).writeY y).writeIcc i).advance i ∧
      YWritten s (((s.writeR rd v).writeY y).writeIcc i).advance y ∧
      Advanced s (((s.writeR rd v).writeY y).writeIcc i).advance ∧
      Frame [.counters, .intRegs, .icc, .y, .clock] s (((s.writeR rd v).writeY y).writeIcc i).advance := by
  have hpair : Frame [.intRegs, .y, .clock] s ((s.writeR rd v).writeY y) :=
    (s.writeR_frame rd v).trans ((s.writeR rd v).writeY_frame y) (by decide) (by decide)
  have hall : Frame [.intRegs, .icc, .y, .clock] s (((s.writeR rd v).writeY y).writeIcc i) :=
    hpair.trans (((s.writeR rd v).writeY y).writeIcc_frame i) (by decide) (by decide)
  have hwindow (r : StateReg) : ((s.writeR rd v).writeY y).inWindow r = s.inWindow r :=
    (State.inWindow_writeY _ y r).trans (s.inWindow_writeR rd v r)
  refine ⟨fun u m => ?_, fun hw => ?_, fun hw => ?_, hall.advanced (by decide),
    hall.trans (State.advance_frame _) (by decide) (by decide)⟩
  · rw [State.readRW_advance, State.readRW_writeIcc, State.readRW_writeY, s.readRW_writeR rd v u m]
  · rw [State.advance_psr, State.writeIcc_written _ i ((hwindow .psr).trans hw)]
  · rw [State.advance_y, State.writeIcc_y, (s.writeR rd v).writeY_written y ((s.inWindow_writeR rd v .y).trans hw)]

/-! ### Bits as numbers -/

theorem getLsbD_zero_eq_odd (w : Word) : w.getLsbD 0 = (w.toNat % 2 == 1) := by
  rw [← BitVec.testBit_toNat, Nat.testBit_zero]
  rfl

/-- A bit above the upper 31 bits of a word is the word halved, and 2^31 with the bit (45 R260). -/
theorem ofBool_append_eq_shiftedIn (top : Bool) (w : Word) :
    BitVec.ofBool top ++ w.extractLsb' 1 31 = shiftedIn top w := by
  apply BitVec.eq_of_toNat_eq
  have hw := w.isLt
  have hhalf : (w.extractLsb' 1 31).toNat = w.toNat / 2 := by
    rw [BitVec.extractLsb'_toNat, Nat.shiftRight_eq_div_pow]
    omega
  rw [shiftedIn, BitVec.toNat_ofNat, BitVec.toNat_append, hhalf, ← Nat.shiftLeft_add_eq_or_of_lt (by omega),
    Nat.shiftLeft_eq]
  cases top <;> simp <;> omega

/-! ### The multiply step (45 R260) -/

theorem mulsccShifted_eq (i : Icc) (a : Word) : mulsccShifted i a = shiftedIn (i.n != i.v) a := by
  rw [← ofBool_append_eq_shiftedIn, mulsccShifted]

theorem mulsccAddend_eq (y b : Word) : mulsccAddend y b = if y.toNat % 2 = 1 then b else 0 := by
  rw [mulsccAddend, getLsbD_zero_eq_odd]
  simp only [beq_iff_eq]

theorem mulsccY_eq (y a : Word) : mulsccY y a = shiftedIn (a.toNat % 2 == 1) y := by
  rw [← getLsbD_zero_eq_odd, ← ofBool_append_eq_shiftedIn, mulsccY]

/-- MULScc as a sum and a shift of numbers. -/
theorem exec_mulscc (rd rs1 : RegNum) (o : Operand2) (s : State) {a b : Word}
    (ha : a = shiftedIn (s.seenIcc.n != s.seenIcc.v) (s.readR rs1))
    (hb : b = if s.seenY.toNat % 2 = 1 then s.op2val o else 0) :
    exec (.mulscc rd rs1 o) s =
      .next (((s.writeR rd (Sum.add.word a b false)).writeY (shiftedIn ((s.readR rs1).toNat % 2 == 1) s.seenY)).writeIcc
        (Sum.add.icc a b false (Sum.add.overflows a b false))).advance := by
  obtain ⟨hsum, hicc⟩ : a + b = Sum.add.word a b false ∧ _ := performsSum_add a b
  show execMulscc rd rs1 o s = _
  rw [execMulscc, mulsccShifted_eq, mulsccAddend_eq, ← ha, ← hb, hsum, hicc, mulsccY_eq, State.writeY_writeIcc_comm]

/-! ### Products (45 R263, R264) -/

theorem lowWord_ofInt (p : Int) : lowWord (BitVec.ofInt 64 p) = BitVec.ofInt 32 p := by
  apply BitVec.eq_of_toNat_eq
  rw [lowWord, toNat_lowBits, BitVec.toNat_ofInt, BitVec.toNat_ofInt]
  omega

theorem highWord_ofInt (p : Int) : highWord (BitVec.ofInt 64 p) = BitVec.ofInt 32 (p / 2 ^ 32) := by
  apply BitVec.eq_of_toNat_eq
  rw [highWord, BitVec.extractLsb'_toNat, BitVec.toNat_ofInt, BitVec.toNat_ofInt, Nat.shiftRight_eq_div_pow]
  omega

/-- What `multiply` and `multiplyCc` write where their product is the exact one: 64 bits hold it. -/
def PerformsProduct (signed : Bool) (product : Word → Word → Dword) : Prop :=
  ∀ a b, product a b = BitVec.ofInt 64 (value signed a * value signed b)

theorem performsProduct_umul : PerformsProduct false umulProduct := by
  intro a b
  have hword (w : Word) : w.setWidth 64 = BitVec.ofInt 64 (value false w) := by simp [value]
  rw [umulProduct, hword, hword, BitVec.ofInt_mul]

theorem performsProduct_smul : PerformsProduct true smulProduct := by
  intro a b
  rw [BitVec.ofInt_mul]
  rfl

theorem mulIcc_eq_plainIcc (w : Word) : mulIcc w = plainIcc w false := by
  rw [mulIcc, plainIcc, signBit_eq_toInt_neg]; rfl

/-- The plain form and the cc form of a row write the row's product. -/
theorem exec_of_mem_multiplies {e : Make3 × Make3 × Bool} (he : e ∈ multiplies) (rd rs1 : RegNum) (o : Operand2)
    (s : State) :
    ∃ product, PerformsProduct e.2.2 product ∧ exec (e.1 rd rs1 o) s = multiply product rd rs1 o s ∧
      exec (e.2.1 rd rs1 o) s = multiplyCc product rd rs1 o s := by
  simp only [multiplies, List.mem_cons, List.not_mem_nil, or_false] at he
  obtain rfl | rfl := he
  · exact ⟨_, performsProduct_umul, rfl, rfl⟩
  · exact ⟨_, performsProduct_smul, rfl, rfl⟩

section

variable {signed : Bool} {product : Word → Word → Dword} (h : PerformsProduct signed product) (rd rs1 : RegNum)
  (o : Operand2) (s : State)

include h

theorem multiply_of_performsProduct {p : Int} (hp : p = value signed (s.readR rs1) * value signed (s.op2val o)) :
    multiply product rd rs1 o s =
      .next ((s.writeR rd (BitVec.ofInt 32 p)).writeY (BitVec.ofInt 32 (p / 2 ^ 32))).advance := by
  rw [multiply, h, ← hp, lowWord_ofInt, highWord_ofInt]

theorem multiplyCc_of_performsProduct {p : Int} (hp : p = value signed (s.readR rs1) * value signed (s.op2val o)) :
    multiplyCc product rd rs1 o s =
      .next (((s.writeR rd (BitVec.ofInt 32 p)).writeY (BitVec.ofInt 32 (p / 2 ^ 32))).writeIcc
        (plainIcc (BitVec.ofInt 32 p) false)).advance := by
  rw [multiplyCc, h, ← hp, lowWord_ofInt, highWord_ofInt, mulIcc_eq_plainIcc]

end

/-! ### Quotients (45 R267 to R269, D21) -/

theorem divIcc_eq_plainIcc (q : Word) (v : Bool) : divIcc q v = plainIcc q v := by
  rw [divIcc, plainIcc, signBit_eq_toInt_neg]; rfl

/-- What `divide` and `divideCc` write where their quotient is the exact one held to the range of the word and their
overflow that of the exact one. -/
def PerformsQuotient (method : SdivMethod) (signed : Bool) (quotient : Dword → Word → Word)
    (overflow : Dword → Word → Bool) : Prop :=
  ∀ y a b : Word,
    quotient (y ++ a) b = BitVec.ofInt 32 (heldQuotient signed (dividend signed y a) (value signed b)) ∧
    overflow (y ++ a) b = divideOverflows method signed (dividend signed y a) (value signed b)

/-- An unsigned quotient is never below the range, so that it overflows on one side alone. -/
theorem udivOverflow_eq (method : SdivMethod) (n : Dword) (b : Word) :
    udivOverflow n b = divideOverflows method false n.toNat b.toNat := by
  rw [udivOverflow, divideOverflows, ← Int.ofNat_tdiv, Bool.eq_iff_iff]
  generalize n.toNat / b.toNat = q
  simp [quotientRange]

theorem udivQuotient_eq (n : Dword) (b : Word) :
    udivQuotient n b = BitVec.ofInt 32 (heldQuotient false n.toNat b.toNat) := by
  rw [udivQuotient, udivOverflow, heldQuotient, ← Int.ofNat_tdiv]
  generalize n.toNat / b.toNat = q
  simp only [quotientRange, Bool.false_eq_true, if_false, decide_eq_true_eq]
  split
  next hover => rw [min_eq_left (by omega)]; rfl
  next hfits => rw [min_eq_right (by omega), max_eq_right (by omega), BitVec.ofInt_natCast]

theorem sdivOverflow_eq (method : SdivMethod) (n : Dword) (b : Word) :
    sdivOverflow method n b = divideOverflows method true n.toInt b.toInt := by
  rw [sdivOverflow, sdivPositiveOverflow, sdivNegativeOverflow, ← Bool.or_assoc, Bool.or_comm (decide _)]
  rfl

/-- Where method B alone overflows, the exact quotient is the number written. -/
theorem sdivQuotient_eq (method : SdivMethod) (n : Dword) (b : Word) :
    sdivQuotient method n b = BitVec.ofInt 32 (heldQuotient true n.toInt b.toInt) := by
  rw [sdivQuotient, sdivPositiveOverflow, sdivNegativeOverflow, sdivExact, heldQuotient]
  generalize n.toInt.tdiv b.toInt = q
  simp only [quotientRange, if_true, decide_eq_true_eq, Bool.or_eq_true, Bool.and_eq_true]
  split
  next hpos => rw [min_eq_left (by omega)]; rfl
  next hpos =>
    rw [min_eq_right (by omega)]
    split
    next hneg => rw [max_eq_left (by omega)]; rfl
    next hfits => rw [max_eq_right (by omega)]

theorem performsQuotient_udiv (method : SdivMethod) : PerformsQuotient method false udivQuotient udivOverflow :=
  fun _ _ b => ⟨udivQuotient_eq _ b, udivOverflow_eq method _ b⟩

theorem performsQuotient_sdiv (method : SdivMethod) :
    PerformsQuotient method true (sdivQuotient method) (sdivOverflow method) :=
  fun _ _ b => ⟨sdivQuotient_eq method _ b, sdivOverflow_eq method _ b⟩

/-- The plain form and the cc form of a row write the row's quotient. -/
theorem exec_of_mem_divides {e : Make3 × Make3 × Bool} (he : e ∈ divides) (rd rs1 : RegNum) (o : Operand2) (s : State) :
    ∃ quotient overflow, PerformsQuotient s.cfg.sdivNegOvf e.2.2 quotient overflow ∧
      exec (e.1 rd rs1 o) s = divide quotient rd rs1 o s ∧
      exec (e.2.1 rd rs1 o) s = divideCc quotient overflow rd rs1 o s := by
  simp only [divides, List.mem_cons, List.not_mem_nil, or_false] at he
  obtain rfl | rfl := he
  · exact ⟨_, _, performsQuotient_udiv _, rfl, rfl⟩
  · exact ⟨_, _, performsQuotient_sdiv _, rfl, rfl⟩

/-- The two divides on a zero divisor (45 R267). -/
theorem divide_of_zero {o : Operand2} {s : State} (h : s.op2val o = 0) (quotient : Dword → Word → Word)
    (overflow : Dword → Word → Bool) (rd rs1 : RegNum) :
    divide quotient rd rs1 o s = .next (s.trap .divisionByZero) ∧
      divideCc quotient overflow rd rs1 o s = .next (s.trap .divisionByZero) :=
  ⟨if_pos h, if_pos h⟩

section

variable {method : SdivMethod} {signed : Bool} {quotient : Dword → Word → Word} {overflow : Dword → Word → Bool}
  (hq : PerformsQuotient method signed quotient overflow) {o : Operand2} {s : State} (h : s.op2val o ≠ 0)
  (rd rs1 : RegNum)

include hq h

theorem divide_of_performsQuotient {n d : Int} (hn : n = dividend signed s.seenY (s.readR rs1))
    (hd : d = value signed (s.op2val o)) {q : Word} (hheld : q = BitVec.ofInt 32 (heldQuotient signed n d)) :
    divide quotient rd rs1 o s = .next ((s.writeR rd q).writeY (s.drawWord .divideY)).advance := by
  obtain ⟨hquotient, -⟩ := hq s.seenY (s.readR rs1) (s.op2val o)
  rw [divide, if_neg h, hquotient, ← hn, ← hd, ← hheld]

theorem divideCc_of_performsQuotient {n d : Int} (hn : n = dividend signed s.seenY (s.readR rs1))
    (hd : d = value signed (s.op2val o)) {q : Word} (hheld : q = BitVec.ofInt 32 (heldQuotient signed n d)) :
    divideCc quotient overflow rd rs1 o s =
      .next (((s.writeR rd q).writeY (s.drawWord .divideY)).writeIcc
        (plainIcc q (divideOverflows method signed n d))).advance := by
  obtain ⟨hquotient, hoverflow⟩ := hq s.seenY (s.readR rs1) (s.op2val o)
  rw [divideCc, if_neg h, hquotient, hoverflow, ← hn, ← hd, ← hheld, divIcc_eq_plainIcc]

end

end Sys2Proof.Machine

namespace Sys2Proof

open Machine

/-- Settles O25: the sum of the shifted operand and the addend is that of ADD, as are its condition codes. -/
theorem multiplyStep : Obligations.MultiplyStep := by
  intro s rd rs1 o
  exact ⟨_, exec_mulscc rd rs1 o s rfl rfl, s.writeR_writeY_writeIcc_complete rd _ _ _⟩

/-- Settles O26: each row writes the words of the exact product. -/
theorem multiplyResults : Obligations.MultiplyResults := by
  intro e he s rd rs1 o p
  obtain ⟨product, hproduct, hplain, hcc⟩ := exec_of_mem_multiplies he rd rs1 o s
  refine ⟨⟨_, hplain.trans (multiply_of_performsProduct hproduct rd rs1 o s rfl), s.writeR_writeY_complete rd _ _⟩, ?_⟩
  obtain ⟨hreg, hicc, hy, hrest⟩ := s.writeR_writeY_writeIcc_complete rd (BitVec.ofInt 32 p)
    (BitVec.ofInt 32 (p / 2 ^ 32)) (plainIcc (BitVec.ofInt 32 p) false)
  exact ⟨_, hcc.trans (multiplyCc_of_performsProduct hproduct rd rs1 o s rfl), hreg, hy, hicc, hrest⟩

/-- Settles O27: the zero divisor traps; else each row writes the held quotient, and Y takes this step's free word. -/
theorem divideResults : Obligations.DivideResults := by
  intro e he s rd rs1 o n d q
  obtain ⟨quotient, overflow, hquotient, hplain, hcc⟩ := exec_of_mem_divides he rd rs1 o s
  split
  next hzero =>
    obtain ⟨htrap, htrapCc⟩ := divide_of_zero hzero quotient overflow rd rs1
    exact ⟨hplain.trans htrap, hcc.trans htrapCc⟩
  next hdivisor =>
    obtain ⟨hreg, -, hrest⟩ := s.writeR_writeY_complete rd q (s.drawWord .divideY)
    obtain ⟨hregCc, hicc, -, hrestCc⟩ := s.writeR_writeY_writeIcc_complete rd q (s.drawWord .divideY)
      (plainIcc q (divideOverflows s.cfg.sdivNegOvf e.2.2 n d))
    exact ⟨⟨_, hplain.trans (divide_of_performsQuotient hquotient hdivisor rd rs1 rfl rfl rfl), hreg, hrest⟩,
      ⟨_, hcc.trans (divideCc_of_performsQuotient hquotient hdivisor rd rs1 rfl rfl rfl), hregCc, hicc, hrestCc⟩⟩

end Sys2Proof
end

section
/-! SAVE and RESTORE: r[rd] of the new window and CWP are written one after the other, the second leaving the first as it is;
which window is the new one is the row's arithmetic on CWP and NWINDOWS. -/

namespace Sys2Proof.Machine

/-! ### Writing a register of a given window and CWP -/

theorem State.writeRW_frame (s : State) (w : BitVec 5) (n : RegNum) (v : Word) : Frame [.intRegs] s (s.writeRW w n v) := by
  intro p hp
  cases p
  case intRegs => simp at hp
  case fRegs => exact State.readF_congr (State.writeRW_f s w n v)
  all_goals simp [Part.same]

theorem State.inWindow_writeRW (s : State) (w : BitVec 5) (n : RegNum) (v : Word) (r : StateReg) :
    (s.writeRW w n v).inWindow r = s.inWindow r := by
  simp [State.inWindow]

theorem State.writeCwp_frame (s : State) (w : BitVec 5) : Frame [.cwp, .clock] s (s.writeCwp w) := by
  intro p hp
  cases p
  case cwp | clock => simp at hp
  case fRegs => exact State.readF_congr (s.writeCwp_f w)
  all_goals simp [Part.same]

theorem State.writeRW_writeCwp_complete (s : State) (w : BitVec 5) (rd : RegNum) (v : Word) :
    RegWritten s ((s.writeRW w rd v).writeCwp w).advance w rd v ∧
      (s.inWindow .psr = false → ((s.writeRW w rd v).writeCwp w).advance.psr.cwp = w) ∧
      Advanced s ((s.writeRW w rd v).writeCwp w).advance ∧
      Frame [.counters, .intRegs, .cwp, .clock] s ((s.writeRW w rd v).writeCwp w).advance := by
  have hboth : Frame [.intRegs, .cwp, .clock] s ((s.writeRW w rd v).writeCwp w) :=
    (s.writeRW_frame w rd v).trans ((s.writeRW w rd v).writeCwp_frame w) (by decide) (by decide)
  refine ⟨fun u m => ?_, fun hw => ?_, hboth.advanced (by decide),
    hboth.trans (State.advance_frame _) (by decide) (by decide)⟩
  · rw [State.readRW_advance, State.readRW_writeCwp, s.readRW_writeRW w rd v u m]
  · rw [State.advance_psr, (s.writeRW w rd v).writeCwp_written w (s.inWindow_writeRW w rd v .psr ▸ hw)]

/-! ### The move to a window (46 R280 to R282) -/

theorem moveWindow_of_marked {w : BitVec 5} {s : State} (h : s.seenWim.getLsbD w.toNat = true) (x : Trap)
    (rd rs1 : RegNum) (o : Operand2) : moveWindow w x rd rs1 o s = .next (s.trap x) :=
  if_pos h

theorem moveWindow_of_unmarked {w : BitVec 5} {s : State} (h : ¬ s.seenWim.getLsbD w.toNat = true) (x : Trap)
    (rd rs1 : RegNum) (o : Operand2) :
    moveWindow w x rd rs1 o s = .next ((s.writeRW w rd (s.readR rs1 + s.op2val o)).writeCwp w).advance :=
  if_neg h

/-- Each row moves to the window its arithmetic gives. -/
theorem exec_of_mem_windowMoves {e : Make3 × (Nat → Nat → Nat) × Trap} (he : e ∈ windowMoves) (rd rs1 : RegNum)
    (o : Operand2) (s : State) :
    exec (e.1 rd rs1 o) s = moveWindow (BitVec.ofNat 5 (e.2.1 s.seenCwp.toNat s.nWindows)) e.2.2 rd rs1 o s := by
  simp only [windowMoves, List.mem_cons, List.not_mem_nil, or_false] at he
  obtain rfl | rfl := he
  · rfl
  · rfl

end Sys2Proof.Machine

namespace Sys2Proof

open Machine

/-- Settles O28: a marked window traps; else r[rd] of the new window and CWP are written. -/
theorem windowMoves_hold : Obligations.WindowMoves := by
  intro e he s rd rs1 o w
  have hexec := exec_of_mem_windowMoves he rd rs1 o s
  split
  next hmarked => exact hexec.trans (moveWindow_of_marked hmarked e.2.2 rd rs1 o)
  next hfree => exact ⟨_, hexec.trans (moveWindow_of_unmarked hfree e.2.2 rd rs1 o), s.writeRW_writeCwp_complete w rd _⟩

end Sys2Proof
end

section
/-! Branches: one operation on the state for each decision (46 R283), the same for the three families, and which decision each
of the sixteen Bicc takes. -/

namespace Sys2Proof.Machine

/-! ### How a branch ends (10_state R27, 46 R283) -/

theorem State.delayed_frame (s : State) (target : Word) : Frame [.counters, .clock] s (s.delayed target) := by
  intro p hp
  cases p
  case counters | clock => simp at hp
  case fRegs => exact State.readF_congr (s.delayed_f target)
  all_goals simp [Part.same]

theorem State.annulNext_frame (s : State) (a : Bool) : Frame [.annul] s (s.annulNext a) := by
  intro p hp
  cases p
  case annul => simp at hp
  case fRegs => exact State.readF_congr (s.annulNext_f a)
  all_goals simp [Part.same]

theorem State.delayed_transferred (s : State) (target : Word) : Transferred s (s.delayed target) target := ⟨rfl, rfl⟩

/-! ### The branch of a decision (46 R283) -/

/-- What the model does on a decision: its operation for always, for never, or for a test. -/
def State.branch (d : Decision) (a : Bool) (disp22 : BitVec 22) (s : State) : State :=
  match d with
  | .always => s.branchAlways a disp22
  | .never => s.branchNever a
  | .test holds => s.branchIf holds a disp22

theorem State.branchAlways_branched (s : State) (a : Bool) (disp22 : BitVec 22) :
    Branched s (s.branchAlways a disp22) .always a disp22 := by
  refine ⟨?_, rfl, (s.delayed_frame _).trans (State.annulNext_frame _ a) (by decide) (by decide)⟩
  rw [Decision.taken, if_pos rfl, ← branchTarget_eq]
  exact s.delayed_transferred _

/-- A branch that is not taken is `advance`, then the annul flag. -/
theorem State.advance_annulNext_branched (s : State) {d : Decision} {a b : Bool} (hd : d.taken = false)
    (hb : d.annuls a = b) (disp22 : BitVec 22) : Branched s (s.advance.annulNext b) d a disp22 := by
  refine ⟨?_, hb.symm, s.advance_frame.trans (State.annulNext_frame _ b) (by decide) (by decide)⟩
  rw [hd, if_neg Bool.false_ne_true]
  exact s.advance_advanced

/-- A test that holds writes no annul flag, so the flag must be clear before. -/
theorem State.branchIf_branched {s : State} (h : s.annul = false) (holds a : Bool) (disp22 : BitVec 22) :
    Branched s (s.branchIf holds a disp22) (.test holds) a disp22 := by
  cases holds with
  | false => exact s.advance_annulNext_branched (d := .test false) rfl (Bool.and_true a) disp22
  | true =>
    refine ⟨?_, h.trans (Bool.and_false a).symm, (s.delayed_frame _).trans (Frame.refl _) (by decide) (List.Subset.refl _)⟩
    rw [Decision.taken, if_pos rfl, ← branchTarget_eq]
    exact s.delayed_transferred _

theorem State.branch_branched {s : State} (h : s.annul = false) (d : Decision) (a : Bool) (disp22 : BitVec 22) :
    Branched s (s.branch d a disp22) d a disp22 := by
  cases d with
  | always => exact s.branchAlways_branched a disp22
  | never => exact s.advance_annulNext_branched rfl rfl disp22
  | test holds => exact State.branchIf_branched h holds a disp22

/-! ### The sixteen Bicc (46 R284 to R300) -/

theorem bicc_eq_branch {cond : IccCond} {s : State} {holds : Bool} (h : cond.holds s.seenIcc = holds) (a : Bool)
    (disp22 : BitVec 22) : bicc cond a disp22 s = .next (s.branch (.test holds) a disp22) := by
  rw [bicc, h, State.branch]

/-- Greater or equal as signed numbers: N and V agree. -/
theorem IccCond.holds_ge (i : Icc) : IccCond.ge.holds i = (i.n == i.v) := by
  cases hn : i.n <;> simp [IccCond.holds, hn]

/-- Each row branches on its decision. -/
theorem exec_of_mem_iccBranches {e : (Bool → BitVec 22 → Instr) × (Icc → Decision)} (he : e ∈ iccBranches) (a : Bool)
    (disp22 : BitVec 22) (s : State) : exec (e.1 a disp22) s = .next (s.branch (e.2 s.seenIcc) a disp22) := by
  simp only [iccBranches, List.mem_cons, List.not_mem_nil, or_false] at he
  obtain rfl | rfl | rfl | rfl | rfl | rfl | rfl | rfl | rfl | rfl | rfl | rfl | rfl | rfl | rfl | rfl := he
  -- BA and BN, then the tests in the table's order; of these only BGE's is written otherwise than the model's
  iterate 2 · rfl
  iterate 4 · exact bicc_eq_branch rfl a disp22
  · exact bicc_eq_branch (IccCond.holds_ge _) a disp22
  all_goals exact bicc_eq_branch rfl a disp22

end Sys2Proof.Machine

namespace Sys2Proof

open Machine

/-- Settles O29: each row is the branch of its decision, and every such branch meets `Branched`. -/
theorem iccBranches_hold : Obligations.IccBranches := by
  intro e he s a disp22 hexecuted
  exact ⟨_, exec_of_mem_iccBranches he a disp22 s, State.branch_branched hexecuted _ a disp22⟩

end Sys2Proof
end

section
/-! CALL, JMPL, RETT and Ticc: a link register and a delayed transfer; the checks of RETT as the rows of 47 R353, and its return
as four updates one after the other; the sixteen tests of Ticc. -/

namespace Sys2Proof.Machine

/-! ### CALL and JMPL (47 R350, R351) -/

theorem targetAligned_iff (a : Word) : targetAligned a = true ↔ a.toNat % 4 = 0 := by
  rw [targetAligned, beq_iff_eq, ← BitVec.toNat_inj, toNat_lowBits]
  rfl

theorem callTarget_eq (s : State) (disp30 : BitVec 30) :
    s.callTarget disp30 = s.pc + BitVec.ofNat 32 (4 * disp30.toNat) := by
  have hfits : 4 * disp30.toNat < 2 ^ 32 := by omega
  have hdisplacement : disp30 ++ 0#2 = BitVec.ofNat 32 (4 * disp30.toNat) := by
    apply BitVec.eq_of_toNat_eq
    rw [BitVec.toNat_append, Nat.shiftLeft_eq, BitVec.toNat_ofNat (4 * disp30.toNat), Nat.mod_eq_of_lt hfits]
    simp [Nat.mul_comm]
  rw [State.callTarget, hdisplacement]

/-- What does not write nPC leaves it to a delayed transfer. -/
theorem delayed_transferred_of_frame {s t : State} {cs : List Part} (h : Frame cs s t) (hpc : .counters ∉ cs)
    (target : Word) : Transferred s (t.delayed target) target := by
  obtain ⟨-, hnpc⟩ := h .counters hpc
  exact ⟨hnpc, rfl⟩

theorem State.writeR_delayed_complete (s : State) (rd : RegNum) (v target : Word) :
    RegWritten s ((s.writeR rd v).delayed target) s.seenCwp rd v ∧
      Transferred s ((s.writeR rd v).delayed target) target ∧
      Frame [.counters, .intRegs, .clock] s ((s.writeR rd v).delayed target) :=
  ⟨s.readRW_writeR rd v, delayed_transferred_of_frame (s.writeR_frame rd v) (by decide) target,
    (s.writeR_frame rd v).trans (State.delayed_frame _ target) (by decide) (by decide)⟩

theorem State.markJmpl_frame (s : State) : Frame [.clock] s s.markJmpl := by
  intro p hp
  cases p
  case clock => simp at hp
  case fRegs => exact State.readF_congr s.markJmpl_f
  all_goals simp [Part.same]

theorem exec_jmpl_of_aligned {s : State} {rs1 : RegNum} {o : Operand2} (h : (s.effectiveAddress rs1 o).toNat % 4 = 0)
    (rd : RegNum) :
    exec (.jmpl rd rs1 o) s = .next ((s.writeR rd s.pc).delayed (s.effectiveAddress rs1 o)).markJmpl := by
  simp [exec, execJmpl, (targetAligned_iff _).mpr h]

theorem exec_jmpl_of_misaligned {s : State} {rs1 : RegNum} {o : Operand2}
    (h : ¬ (s.effectiveAddress rs1 o).toNat % 4 = 0) (rd : RegNum) :
    exec (.jmpl rd rs1 o) s = .next (s.trap .memAddressNotAligned) := by
  simp [exec, execJmpl, mt (targetAligned_iff _).mp h, State.raise]

/-! ### RETT: the updates of its return (47 R352, 48 R392) -/

/-- S and ET as RETT writes them: `v` and 1 with no WRPSR window open, free values inside one (70 R524). -/
def State.writeMode (v : Bool) (s : State) : State :=
  if s.inWindow .psr then
    { s with
      psr := { s.psr with s := s.drawBit .sAfter, et := s.drawBit .etAfter }
      pending := spoil .psr (sMask ||| etMask) s.pending }
  else { s with psr := { s.psr with s := v, et := true } }

/-- The handler of the last trap is left, and whether the space of the next fetches is open. -/
def State.leaveHandler (doubt : Bool) (s : State) : State :=
  { s with fetchDoubt := doubt, pending := s.pending.map PendingWrite.leaveHandler }

theorem State.inWindow_writeCwp (s : State) (w : BitVec 5) (r : StateReg) :
    (s.writeCwp w).inWindow r = s.inWindow r := by
  unfold State.writeCwp
  split
  · exact any_reg_spoil r .psr _ _
  · rfl

theorem State.drawBit_writeCwp (s : State) (w : BitVec 5) (i : FreeItem) : (s.writeCwp w).drawBit i = s.drawBit i := by
  unfold State.writeCwp
  split <;> rfl

theorem State.returnFromTrap_eq (s : State) (target : Word) :
    s.returnFromTrap target =
      (((s.writeCwp (s.nextWindow s.seenCwp)).writeMode s.seenPs).delayed target).leaveHandler (!s.afterJmpl) := by
  rw [State.writeMode, State.inWindow_writeCwp, State.drawBit_writeCwp, State.drawBit_writeCwp]
  rfl

theorem State.writeMode_written {s : State} (h : s.inWindow .psr = false) (v : Bool) :
    s.writeMode v = { s with psr := { s.psr with s := v, et := true } } :=
  if_neg (Bool.eq_false_iff.mp h)

/-- Inside a window or not, S, ET and the open windows are all that `writeMode` writes. -/
theorem State.writeMode_writes (s : State) (v : Bool) :
    ∃ sup et ps, s.writeMode v = { s with psr := { s.psr with s := sup, et := et }, pending := ps } := by
  unfold State.writeMode
  split
  · exact ⟨_, _, _, rfl⟩
  · exact ⟨v, true, s.pending, rfl⟩

theorem State.writeMode_frame (s : State) (v : Bool) : Frame [.supervisor, .et, .clock] s (s.writeMode v) := by
  obtain ⟨sup, et, ps, hwrites⟩ := s.writeMode_writes v
  rw [hwrites]
  intro p hp
  cases p
  case supervisor | et | clock => simp at hp
  case intRegs => exact State.readRW_congr rfl rfl rfl
  case fRegs => exact State.readF_congr rfl
  all_goals simp [Part.same]

theorem State.leaveHandler_frame (s : State) (doubt : Bool) : Frame [.fetchSpace, .clock] s (s.leaveHandler doubt) := by
  intro p hp
  cases p
  case fetchSpace | clock => simp at hp
  case intRegs => exact State.readRW_congr rfl rfl rfl
  case fRegs => exact State.readF_congr rfl
  all_goals simp [Part.same, State.leaveHandler]

/-! ### RETT: the handlers its windows are in (48 R392, statements 2 and 6; log 7) -/

/-- No open window has met more than `n` traps whose handlers are not left. -/
def HandlersWithin (n : Nat) (ps : List PendingWrite) : Prop := ∀ p ∈ ps, p.handlers ≤ n

variable {n : Nat} {ps : List PendingWrite}

theorem HandlersWithin.spoiled (h : HandlersWithin n ps) (r : StateReg) (field : Word) :
    HandlersWithin n (spoil r field ps) := by
  intro p hp
  obtain ⟨q, hq, rfl⟩ := List.mem_map.mp hp
  split <;> exact h q hq

theorem PendingWrite.age_handlers {p q : PendingWrite} (h : p.age = some q) : q.handlers = p.handlers := by
  unfold PendingWrite.age at h
  split at h
  · cases h
  · rw [← Option.some.inj h]

theorem HandlersWithin.aged (h : HandlersWithin n ps) : HandlersWithin n (ps.filterMap PendingWrite.age) := by
  intro q hq
  obtain ⟨p, hp, hage⟩ := List.mem_filterMap.mp hq
  exact (PendingWrite.age_handlers hage).symm ▸ h p hp

theorem HandlersWithin.left (h : HandlersWithin (n + 1) ps) : HandlersWithin n (ps.map PendingWrite.leaveHandler) := by
  intro q hq
  obtain ⟨p, hp, rfl⟩ := List.mem_map.mp hq
  exact Nat.sub_le_of_le_add (h p hp)

theorem HandlersWithin.writeCwp {s : State} (h : HandlersWithin n s.pending) (w : BitVec 5) :
    HandlersWithin n (s.writeCwp w).pending := by
  unfold State.writeCwp
  split
  · exact h.spoiled .psr cwpMask
  · exact h

theorem HandlersWithin.writeMode {s : State} (h : HandlersWithin n s.pending) (v : Bool) :
    HandlersWithin n (s.writeMode v).pending := by
  unfold State.writeMode
  split
  · exact h.spoiled .psr (sMask ||| etMask)
  · exact h

/-- A RETT out of the only handler of every window leaves none in a handler. -/
theorem State.settled_returnFromTrap {s : State} (h : HandlersWithin 1 s.pending) (target : Word) :
    (s.returnFromTrap target).settled = s.returnFromTrap target := by
  rw [State.returnFromTrap_eq]
  have hleft := ((h.writeCwp (s.nextWindow s.seenCwp)).writeMode s.seenPs).aged.left
  exact State.settled_of_no_handlers fun p hp => Nat.le_zero.mp (hleft p hp)

/-! ### RETT: the return and the rows of R353 (47 R352, R353) -/

theorem State.returnFromTrap_psr {s : State} (h : s.inWindow .psr = false) (target : Word) :
    (s.returnFromTrap target).psr.cwp = s.nextWindow s.seenCwp ∧ (s.returnFromTrap target).psr.s = s.seenPs ∧
      (s.returnFromTrap target).psr.et = true := by
  rw [State.returnFromTrap_eq, State.writeMode_written ((s.inWindow_writeCwp _ .psr).trans h)]
  exact ⟨s.writeCwp_written _ h, rfl, rfl⟩

theorem State.returnFromTrap_transferred (s : State) (target : Word) :
    Transferred s (s.returnFromTrap target) target ∧
      Frame [.counters, .cwp, .supervisor, .et, .fetchSpace, .clock] s (s.returnFromTrap target) := by
  rw [State.returnFromTrap_eq]
  have hfields : Frame [.cwp, .supervisor, .et, .clock] s ((s.writeCwp (s.nextWindow s.seenCwp)).writeMode s.seenPs) :=
    (s.writeCwp_frame _).trans (State.writeMode_frame _ s.seenPs) (by decide) (by decide)
  have hdelayed := hfields.trans (State.delayed_frame _ target) (es := [.counters, .cwp, .supervisor, .et, .clock])
    (by decide) (by decide)
  exact ⟨delayed_transferred_of_frame hfields (by decide) target,
    hdelayed.trans (State.leaveHandler_frame _ (!s.afterJmpl)) (by decide) (by decide)⟩

theorem exec_rett {s : State} {rs1 : RegNum} {o : Operand2} {w : BitVec 5} {target : Word}
    (hw : w = s.nextWindow s.seenCwp) (htarget : target = s.effectiveAddress rs1 o) :
    exec (.rett rs1 o) s =
      if s.seenEt then .next (s.trap (if s.seenS then .illegalInstruction else .privilegedInstruction))
      else if s.seenS = false then .next (s.errorHalt .privilegedInstruction)
      else if s.seenWim.getLsbD w.toNat then .next (s.errorHalt .windowUnderflow)
      else if target.toNat % 4 ≠ 0 then .next (s.errorHalt .memAddressNotAligned)
      else .next (s.returnFromTrap target) := by
  subst hw htarget
  have hmisaligned (a : Word) : (!targetAligned a) = true ↔ a.toNat % 4 ≠ 0 := by
    rw [Ne, ← targetAligned_iff, Bool.not_eq_true', Bool.not_eq_true]
  have hraise : (if s.seenS then s.raise .illegalInstruction else s.raise .privilegedInstruction) =
      .next (s.trap (if s.seenS then .illegalInstruction else .privilegedInstruction)) := by
    split <;> rfl
  simp only [exec, execRett, rettChecks, hraise, hmisaligned, State.windowMarked, Bool.not_eq_true']

/-! ### The sixteen Ticc (47 R354 to R371) -/

theorem ticc_of_true {test : Bool} (h : test = true) (rs1 : RegNum) (o : TrapOperand) (s : State) :
    ticc test rs1 o s = .next (s.trap (.trapInstruction (s.trapNumber rs1 o))) :=
  if_pos h

theorem ticc_of_not {test : Bool} (h : ¬ test = true) (rs1 : RegNum) (o : TrapOperand) (s : State) :
    ticc test rs1 o s = .next s.advance :=
  if_neg h

theorem trapInstruction_tt_toNat (k : BitVec 7) : (Trap.trapInstruction k).tt.toNat = 128 + k.toNat := by
  rw [Trap.tt, BitVec.toNat_append, ← Nat.shiftLeft_add_eq_or_of_lt k.isLt]
  rfl

/-- Each row is `ticc` of its test. -/
theorem exec_of_mem_iccTraps {e : (RegNum → TrapOperand → Instr) × (Icc → Bool)} (he : e ∈ iccTraps) (rs1 : RegNum)
    (o : TrapOperand) (s : State) : exec (e.1 rs1 o) s = ticc (e.2 s.seenIcc) rs1 o s := by
  simp only [iccTraps, List.mem_cons, List.not_mem_nil, or_false] at he
  obtain rfl | rfl | rfl | rfl | rfl | rfl | rfl | rfl | rfl | rfl | rfl | rfl | rfl | rfl | rfl | rfl := he
  -- TA, TN, TNE, TE, TG and TLE, then TGE, whose test alone is written otherwise than the model's
  iterate 6 · rfl
  · exact congrArg (ticc · rs1 o s) (IccCond.holds_ge s.seenIcc)
  all_goals rfl

end Sys2Proof.Machine

namespace Sys2Proof

open Machine

/-- Settles O31: both write the link register and transfer, JMPL where its target is aligned. -/
theorem linkedTransfers : Obligations.LinkedTransfers := by
  refine ⟨fun s disp30 => ?_, fun s rd rs1 o => ?_⟩
  · rw [← callTarget_eq]
    exact ⟨_, rfl, s.writeR_delayed_complete 15 s.pc _⟩
  · obtain ⟨hlink, htransfer, hframe⟩ := s.writeR_delayed_complete rd s.pc (s.effectiveAddress rs1 o)
    split
    next haligned =>
      exact ⟨_, exec_jmpl_of_aligned haligned rd, hlink, htransfer,
        hframe.trans (State.markJmpl_frame _) (List.Subset.refl _) (by decide)⟩
    next hmisaligned => exact exec_jmpl_of_misaligned hmisaligned rd

/-- Settles O32: the rows of `exec_rett`, and in the last the return. -/
theorem returnFromTrap : Obligations.ReturnFromTrap := by
  intro s rs1 o w target
  rw [exec_rett (w := w) (target := target) rfl rfl]
  split_ifs with henabled hsupervisor huser hmarked hmisaligned
  · rfl
  · rfl
  · exact ⟨_, rfl, s.errorHalt_halted _⟩
  · exact ⟨_, rfl, s.errorHalt_halted _⟩
  · exact ⟨_, rfl, s.errorHalt_halted _⟩
  · obtain ⟨htransfer, hframe⟩ := s.returnFromTrap_transferred target
    exact ⟨_, rfl, htransfer, fun hw => State.returnFromTrap_psr hw target,
      fun hhandlers => State.settled_returnFromTrap hhandlers target, rfl, hframe⟩

/-- Settles O33: each row is `ticc` of its test, which traps or advances. -/
theorem iccTraps_hold : Obligations.IccTraps := by
  intro e he s rs1 o
  have hexec := exec_of_mem_iccTraps he rs1 o s
  split
  next htest => exact ⟨hexec.trans (ticc_of_true htest rs1 o s), trapInstruction_tt_toNat _⟩
  next htest => exact ⟨_, hexec.trans (ticc_of_not htest rs1 o s), s.advance_advanced, s.advance_frame⟩

end Sys2Proof
end

section
/-! What an instruction can do, said once: `Outcome i s t` lists the forms of a next state `t` of an instruction `i`, and
`exec_outcome` says that every next state has one of them. The invariants of a step are case analyses of it. -/

namespace Sys2Proof.Machine

/-! ### What is kept -/

/-- Of the parts of the state with few writers (10_state R29, R38, R52), the ones that may be written. -/
structure Writes where
  icc : Bool
  y : Bool
  f : Bool
  mem : Bool

/-- The parts an instruction may write. -/
def writesOf (i : Instr) : Writes := ⟨i.writesIcc, i.writesY, i.writesF, i.writesMemory⟩

/-- What every instruction but a write of PSR, WIM or TBR, a RETT and a trap keeps, and of the parts with few writers those
that are not in `W`. -/
structure Kept (W : Writes) (s t : State) : Prop where
  cfg : t.cfg = s.cfg
  errorMode : t.errorMode = s.errorMode
  wim : t.wim = s.wim
  tbr : t.tbr = s.tbr
  ec : t.psr.ec = s.psr.ec
  ef : t.psr.ef = s.psr.ef
  pil : t.psr.pil = s.psr.pil
  supervisor : t.psr.s = s.psr.s
  cwpLegal : s.psr.cwp.toNat < s.nWindows → t.psr.cwp.toNat < s.nWindows
  globalZero : (s.g[0]?).getD 0 = 0 → (t.g[0]?).getD 0 = 0
  canonical : s.mem.wf = true → t.mem.wf = true
  settled : PrivilegedSettled s → PrivilegedSettled t
  icc : W.icc = false → t.psr.icc = s.psr.icc
  y : W.y = false → t.y = s.y
  f : W.f = false → t.f = s.f
  mem : W.mem = false → t.mem = s.mem

/-- An update an instruction makes before or after it retires. -/
structure Updates (W : Writes) (s t : State) : Prop extends Kept W s t where
  pc : t.pc = s.pc
  npc : t.npc = s.npc

/-- An instruction that completes goes on at nPC, and the new nPC is word-aligned where the counters were. -/
structure Completes (W : Writes) (s t : State) : Prop extends Kept W s t where
  pc : t.pc = s.npc
  npcAligned : s.pc.toNat % 4 = 0 → s.npc.toNat % 4 = 0 → t.npc.toNat % 4 = 0

/-- What an instruction may leave behind for a trap that ends it: nothing of the PSR and of the windows. -/
structure Spoils (W : Writes) (s t : State) : Prop extends Updates W s t where
  psr : t.psr = s.psr
  pending : t.pending = s.pending

/-- The forms of a next state of an instruction. -/
inductive Outcome (i : Instr) (s : State) : State → Prop
  | trapped {u : State} (x : Trap) (h : Spoils (writesOf i) s u) : Outcome i s (u.trap x)
  | completed {t : State} (h : Completes (writesOf i) s t) : Outcome i s t
  | wrotePsr (v : Word) (hi : i.isWrpsr = true) (hs : s.seenS = true)
      (hcwp : (v.extractLsb' 0 5).toNat < s.nWindows) : Outcome i s (s.writePsr v)
  | wroteWim (v : Word) (hi : i.isWrwim = true) (hs : s.seenS = true) : Outcome i s (s.writeWim v)
  | wroteTbr (v : Word) (hi : i.isWrtbr = true) (hs : s.seenS = true) : Outcome i s (s.writeTbr v)
  | returned (target : Word) (hs : s.seenS = true) (ha : target.toNat % 4 = 0) : Outcome i s (s.returnFromTrap target)

variable {W : Writes} {i : Instr} {s t u : State}

theorem Kept.trans (h : Kept W s t) (h' : Kept W t u) : Kept W s u where
  cfg := h'.cfg.trans h.cfg
  errorMode := h'.errorMode.trans h.errorMode
  wim := h'.wim.trans h.wim
  tbr := h'.tbr.trans h.tbr
  ec := h'.ec.trans h.ec
  ef := h'.ef.trans h.ef
  pil := h'.pil.trans h.pil
  supervisor := h'.supervisor.trans h.supervisor
  cwpLegal := fun hc => by
    have hn : t.nWindows = s.nWindows := by simp only [State.nWindows, h.cfg]
    exact hn ▸ h'.cwpLegal (hn ▸ h.cwpLegal hc)
  globalZero := fun hg => h'.globalZero (h.globalZero hg)
  canonical := fun hm => h'.canonical (h.canonical hm)
  settled := fun hp => h'.settled (h.settled hp)
  icc := fun hW => (h'.icc hW).trans (h.icc hW)
  y := fun hW => (h'.y hW).trans (h.y hW)
  f := fun hW => (h'.f hW).trans (h.f hW)
  mem := fun hW => (h'.mem hW).trans (h.mem hW)

theorem Updates.trans (h : Updates W s t) (h' : Updates W t u) : Updates W s u where
  toKept := h.toKept.trans h'.toKept
  pc := h'.pc.trans h.pc
  npc := h'.npc.trans h.npc

/-! ### Updates -/

/-- The windows of the write state register instructions after another update of them. -/
theorem settled_of_inWindow (h : ∀ r, t.inWindow r = s.inWindow r) (hs : PrivilegedSettled s) : PrivilegedSettled t := by
  simpa only [PrivilegedSettled, h] using hs

/-- Any update of parts that `Kept` does not speak of. -/
theorem Updates.unspoken {annul : Bool} {win : Vector Word 512} {asr : Vector Word 32} {fsr : Fsr} {fq : List Dword}
    {fpPending : Option (BitVec 3)} {cp : Cp} {cpExc afterFpop2 afterJmpl : Bool} {ldfsrLeft : Nat} {fetchDoubt : Bool}
    {ibuf : List StaleDword} {freeCount : Nat} : Updates W s { s with
      annul := annul, win := win, asr := asr, fsr := fsr, fq := fq, fpPending := fpPending, cp := cp, cpExc := cpExc,
      afterFpop2 := afterFpop2, afterJmpl := afterJmpl, ldfsrLeft := ldfsrLeft, fetchDoubt := fetchDoubt, ibuf := ibuf,
      freeCount := freeCount } where
  cfg := rfl
  errorMode := rfl
  wim := rfl
  tbr := rfl
  ec := rfl
  ef := rfl
  pil := rfl
  supervisor := rfl
  cwpLegal := id
  globalZero := id
  canonical := id
  settled := id
  icc := fun _ => rfl
  y := fun _ => rfl
  f := fun _ => rfl
  mem := fun _ => rfl
  pc := rfl
  npc := rfl

theorem Updates.refl : Updates W s s := Updates.unspoken

/-- A write to r[0] is discarded (10_state R23). -/
theorem writeRW_globalZero (s : State) (w : BitVec 5) (n : RegNum) (v : Word) (h : (s.g[0]?).getD 0 = 0) :
    ((s.writeRW w n v).g[0]?).getD 0 = 0 := by
  unfold State.writeRW
  split
  · exact h
  next hn =>
    have hn0 : n.toNat ≠ 0 := fun e => hn (BitVec.eq_of_toNat_eq e)
    split
    · simpa [hn0] using h
    · exact h

theorem updates_writeRW (s : State) (w : BitVec 5) (n : RegNum) (v : Word) : Updates W s (s.writeRW w n v) := by
  constructor
  case toKept =>
    constructor
    case globalZero => exact writeRW_globalZero s w n v
    case settled => exact settled_of_inWindow (s.inWindow_writeRW w n v)
    all_goals simp
  all_goals simp

theorem updates_writeR (s : State) (n : RegNum) (v : Word) : Updates W s (s.writeR n v) := updates_writeRW s _ n v

theorem updates_writeRPair (s : State) (n : RegNum) (v : Dword) : Updates W s (s.writeRPair n v) :=
  (updates_writeR s _ _).trans (updates_writeR _ _ _)

theorem updates_writeIcc (hW : W.icc = true) (s : State) (c : Icc) : Updates W s (s.writeIcc c) := by
  constructor
  case toKept =>
    constructor
    case settled => exact settled_of_inWindow (s.inWindow_writeIcc c)
    all_goals simp [hW]
  all_goals simp

theorem updates_writeY (hW : W.y = true) (s : State) (v : Word) : Updates W s (s.writeY v) := by
  constructor
  case toKept =>
    constructor
    case settled => exact settled_of_inWindow (s.inWindow_writeY v)
    all_goals simp [hW]
  all_goals simp

/-- Inside a WRPSR window too, CWP becomes the number of a window. -/
theorem writeCwp_legal (s : State) {w : BitVec 5} (hw : w.toNat < s.nWindows) : (s.writeCwp w).psr.cwp.toNat < s.nWindows := by
  unfold State.writeCwp
  split
  · exact s.window_lt _
  · exact hw

theorem updates_writeCwp (s : State) {w : BitVec 5} (hw : w.toNat < s.nWindows) : Updates W s (s.writeCwp w) := by
  constructor
  case toKept =>
    constructor
    case cwpLegal => exact fun _ => writeCwp_legal s hw
    case settled => exact settled_of_inWindow (s.inWindow_writeCwp w)
    all_goals simp
  all_goals simp

theorem updates_f (hW : W.f = true) (s : State) (f : Vector Word 32) : Updates W s { s with f := f } := by
  constructor
  case toKept =>
    constructor
    case settled => exact id
    all_goals simp [hW]
  all_goals simp

theorem updates_writeF (hW : W.f = true) (s : State) (n : RegNum) (v : Word) : Updates W s (s.writeF n v) :=
  updates_f hW s _

theorem updates_writeFd (hW : W.f = true) (s : State) (n : RegNum) (v : Dword) : Updates W s (s.writeFd n v) :=
  (updates_writeF hW s _ _).trans (updates_writeF hW _ _ _)

theorem updates_writeFq (hW : W.f = true) (s : State) (n : RegNum) (v : Quad) : Updates W s (s.writeFq n v) :=
  (((updates_writeF hW s _ _).trans (updates_writeF hW _ _ _)).trans (updates_writeF hW _ _ _)).trans
    (updates_writeF hW _ _ _)

theorem updates_writeFp (hW : W.f = true) (s : State) (p : Prec) (n : RegNum) (v : Nat) : Updates W s (s.writeFp p n v) := by
  cases p with
  | single => exact updates_writeF hW s n _
  | double => exact updates_writeFd hW s n _
  | quad => exact updates_writeFq hW s n _

/-- A store of any width that keeps the canonical form. -/
theorem updates_store (hW : W.mem = true) (s : State) (k : Nat) {m : Memory} (hm : s.mem.wf = true → m.wf = true) :
    Updates W s { s.noteStore k with mem := m } := by
  constructor
  case toKept =>
    constructor
    case canonical => exact hm
    case settled => exact settled_of_inWindow fun r => by simp [State.inWindow]
    all_goals simp [hW]
  all_goals simp

theorem updates_store1 (hW : W.mem = true) (s : State) (k : Nat) (v : Byte) : Updates W s (s.store1 k v) :=
  updates_store hW s k fun h => Memory.wf_write1 h k v

theorem updates_store2 (hW : W.mem = true) (s : State) (k : Nat) (v : Half) : Updates W s (s.store2 k v) :=
  updates_store hW s k fun h => Memory.wf_write2 h k v

theorem updates_store4 (hW : W.mem = true) (s : State) (k : Nat) (v : Word) : Updates W s (s.store4 k v) :=
  updates_store hW s k fun h => Memory.wf_write4 h k v

theorem updates_store8 (hW : W.mem = true) (s : State) (k : Nat) (v : Dword) : Updates W s (s.store8 k v) :=
  updates_store hW s k fun h => Memory.wf_write8 h k v

theorem updates_zeroFtt (s : State) : Updates W s s.zeroFtt := by
  unfold State.zeroFtt
  split <;> exact Updates.unspoken

theorem updates_popFq (s : State) : Updates W s s.popFq := by
  unfold State.popFq
  split <;> exact Updates.unspoken

theorem updates_popCq (s : State) : Updates W s s.popCq := by
  unfold State.popCq
  split <;> exact Updates.unspoken

theorem updates_loadCPair (s : State) (n : RegNum) (v : Dword) : Updates W s (s.loadCPair n v) := by
  unfold State.loadCPair
  split <;> exact Updates.unspoken

/-- Opening the window of a write of Y or of an ancillary register. -/
theorem updates_openWindow (s : State) {r : StateReg} (hr : r ≠ .psr ∧ r ≠ .wim ∧ r ≠ .tbr) (a b : Word) :
    Updates W s (s.openWindow r a b) := by
  obtain ⟨hpsr, hwim, htbr⟩ := hr
  constructor
  case toKept =>
    constructor
    case settled =>
      intro hs
      simpa [PrivilegedSettled, State.inWindow, State.openWindow, hpsr, hwim, htbr] using hs
    all_goals simp
  all_goals simp

/-! ### How an instruction ends -/

/-- Windows only close as an instruction retires. -/
theorem inWindow_retire {r : StateReg} (h : s.inWindow r = false) : s.retire.inWindow r = false := by
  simp only [State.inWindow, List.any_eq_false] at h ⊢
  intro q hq
  obtain ⟨p, hp, hage⟩ := List.mem_filterMap.mp hq
  have hreg : q.reg = p.reg := by
    unfold PendingWrite.age at hage
    split at hage
    · cases hage
    · rw [← Option.some.inj hage]
  exact hreg ▸ h p hp

theorem kept_retire (s : State) (pc npc : Word) : Kept W s { s.retire with pc := pc, npc := npc } := by
  constructor
  case settled =>
    rintro ⟨hpsr, hwim, htbr⟩
    exact ⟨inWindow_retire hpsr, inWindow_retire hwim, inWindow_retire htbr⟩
  all_goals simp

theorem add_four_aligned {a : Word} (h : a.toNat % 4 = 0) : (a + 4).toNat % 4 = 0 := by
  rw [BitVec.toNat_add]
  simp
  omega

theorem Updates.advance (h : Updates W s t) : Completes W s t.advance where
  toKept := h.toKept.trans (kept_retire t _ _)
  pc := h.npc
  npcAligned := fun _ hn => add_four_aligned (h.npc.symm ▸ hn)

theorem Updates.delayed (h : Updates W s t) {target : Word} (ha : s.pc.toNat % 4 = 0 → target.toNat % 4 = 0) :
    Completes W s (t.delayed target) where
  toKept := h.toKept.trans (kept_retire t _ _)
  pc := h.npc
  npcAligned := fun hp _ => ha hp

theorem Completes.updates (h : Completes W s t) (h' : Updates W t u) : Completes W s u where
  toKept := h.toKept.trans h'.toKept
  pc := h'.pc.trans h.pc
  npcAligned := fun hp hn => h'.npc.symm ▸ h.npcAligned hp hn

/-! ### The shared operations (40 R140, R153, 41 R170, 42 R200, 46 R283, 47 R354, 49 R410) -/

theorem Spoils.refl : Spoils W s s := ⟨Updates.refl, rfl, rfl⟩

theorem spoils_writeR (s : State) (n : RegNum) (v : Word) : Spoils W s (s.writeR n v) :=
  ⟨updates_writeR s n v, State.writeRW_psr s _ n v, State.writeRW_pending s _ n v⟩

theorem spoils_writeRPair (s : State) (n : RegNum) (v : Dword) : Spoils W s (s.writeRPair n v) :=
  ⟨updates_writeRPair s n v, by simp [State.writeRPair], by simp [State.writeRPair]⟩

theorem outcome_trap (x : Trap) : Outcome i s (s.trap x) := .trapped x .refl

/-- A trap condition that leaves something behind only where the trap is taken. -/
theorem outcome_of_enabled {u : State} (hu : Spoils (writesOf i) s u) (he : u.seenEt = s.seenEt) (x : Trap) :
    Outcome i s (if s.seenEt then u.trapEntry x.tt else s.errorHalt x) := by
  split
  next h => exact State.trap_of_et (he.trans h) x ▸ .trapped x hu
  next h => exact State.trap_of_not_et (Bool.eq_false_iff.mpr h) x ▸ outcome_trap x

theorem raiseFp_outcome (k : BitVec 3) : Always (Outcome i s) (s.raiseFp k) :=
  outcome_of_enabled ⟨Updates.unspoken, rfl, rfl⟩ rfl .fpException

theorem raiseCp_outcome : Always (Outcome i s) s.raiseCp :=
  outcome_of_enabled ⟨Updates.unspoken, rfl, rfl⟩ rfl .cpException

theorem takeDeferred_outcome (k : BitVec 3) : Always (Outcome i s) (s.takeDeferred k) :=
  outcome_of_enabled ⟨Updates.unspoken, rfl, rfl⟩ rfl .fpException

theorem loadAt_outcome {α : Type} {n : Nat} {read : Memory → Nat → Option α} {write : α → State → State}
    {spoiled : State → State} {asi : Asi} {ea : Word} (hs : Spoils (writesOf i) s (spoiled s))
    (hw : ∀ v, Updates (writesOf i) s (write v s)) : Always (Outcome i s) (loadAt n read write spoiled asi ea s) :=
  loadAt_always outcome_trap (fun x => .trapped x hs) fun v => .completed (hw v).advance

theorem storeAt_outcome {n : Nat} {store : Nat → State → State} {spoiled : Nat → State → State} {asi : Asi} {ea : Word}
    (hs : ∀ key, Spoils (writesOf i) s (spoiled key s)) (hw : ∀ key, Updates (writesOf i) s (store key s)) :
    Always (Outcome i s) (storeAt n store spoiled asi ea s) :=
  storeAt_always outcome_trap (fun key x => .trapped x (hs key)) fun key => .completed (hw key).advance

theorem spoils_nothing (key : Nat) : Spoils W s (spoilNothing key s) := .refl

theorem spoils_firstWord (hW : W.mem = true) (key : Nat) : Spoils W s (spoilFirstWord key s) :=
  ⟨updates_store4 hW s key _, State.noteStore_psr s key, State.noteStore_pending s key⟩

theorem atomicAt_outcome {α : Type} {n : Nat} {read : Memory → Nat → Option α} {store : Nat → State → State}
    {write : α → State → State} {rd : RegNum} {asi : Asi} {ea : Word} (hs : ∀ key, Updates (writesOf i) s (store key s))
    (hw : ∀ v t, Updates (writesOf i) t (write v t)) :
    Always (Outcome i s) (atomicAt n read store write (spoilR rd) asi ea s) :=
  atomicAt_always outcome_trap (fun x => .trapped x (spoils_writeR s rd _))
    fun key v => .completed ((hs key).trans (hw v _)).advance

theorem ordinary_outcome {double : Bool} {rd rs1 : RegNum} {o : Operand2} {k : Asi → Word → State → Out}
    (hk : ∀ asi ea, Always (Outcome i s) (k asi ea s)) : Always (Outcome i s) (ordinary double rd rs1 o k s) :=
  ordinary_always outcome_trap hk

theorem alternate_outcome {double : Bool} {rd rs1 : RegNum} {o : AltOperand} {k : Asi → Word → State → Out}
    (hk : ∀ asi ea, Always (Outcome i s) (k asi ea s)) : Always (Outcome i s) (alternate double rd rs1 o k s) :=
  alternate_always outcome_trap fun _ => hk

theorem fpAccess_outcome {privileged sequenced double : Bool} {n : Nat} {rd rs1 : RegNum} {o : Operand2}
    {k : Asi → Word → State → Out} (hk : ∀ asi ea, Always (Outcome i s) (k asi ea s)) :
    Always (Outcome i s) (fpAccess privileged sequenced double n rd rs1 o k s) :=
  fpAccess_always outcome_trap raiseFp_outcome hk

theorem cpAccess_outcome {privileged : Bool} {n : Nat} {rs1 : RegNum} {o : Operand2} {k : Asi → Word → State → Out}
    (hk : ∀ asi ea, Always (Outcome i s) (k asi ea s)) : Always (Outcome i s) (cpAccess privileged n rs1 o k s) :=
  cpAccess_always outcome_trap raiseCp_outcome hk

theorem loadInteger_outcome {w n : Nat} {read : Memory → Nat → Option (BitVec w)} {extend : BitVec w → Word} {rd : RegNum}
    (asi : Asi) (ea : Word) : Always (Outcome i s) (loadInteger n read extend rd asi ea s) :=
  loadAt_outcome (spoils_writeR s rd _) fun _ => updates_writeR s rd _

theorem loadDouble_outcome {rd : RegNum} (asi : Asi) (ea : Word) : Always (Outcome i s) (loadDouble rd asi ea s) :=
  loadAt_outcome (spoils_writeRPair s rd _) fun _ => updates_writeRPair s rd _

theorem loadFsrAt_outcome (asi : Asi) (ea : Word) : Always (Outcome i s) (loadFsrAt asi ea s) :=
  readAt_always (fun x => .trapped x ⟨Updates.unspoken, rfl, rfl⟩) fun _ _ _ =>
    .completed ((Updates.unspoken (s := s)).advance.updates Updates.unspoken)

/-! #### Stores -/

section
variable (hmem : i.writesMemory = true) (rd : RegNum) (asi : Asi) (ea : Word)
include hmem

theorem storeByte_outcome : Always (Outcome i s) (storeByte rd asi ea s) :=
  storeAt_outcome spoils_nothing fun key => updates_store1 hmem s key _

theorem storeHalf_outcome : Always (Outcome i s) (storeHalf rd asi ea s) :=
  storeAt_outcome spoils_nothing fun key => updates_store2 hmem s key _

theorem storeWord_outcome : Always (Outcome i s) (storeWord rd asi ea s) :=
  storeAt_outcome spoils_nothing fun key => updates_store4 hmem s key _

theorem storePair_outcome : Always (Outcome i s) (storePair rd asi ea s) :=
  storeAt_outcome (spoils_firstWord hmem) fun key => updates_store8 hmem s key _

theorem storeF_outcome : Always (Outcome i s) (storeF rd asi ea s) :=
  storeAt_outcome spoils_nothing fun key => updates_store4 hmem s key _

theorem storeFd_outcome : Always (Outcome i s) (storeFd rd asi ea s) :=
  storeAt_outcome (spoils_firstWord hmem) fun key => updates_store8 hmem s key _

theorem storeFsr_outcome : Always (Outcome i s) (storeFsr asi ea s) :=
  storeAt_outcome spoils_nothing fun key => (updates_store4 hmem s key _).trans (updates_zeroFtt _)

theorem storeFq_outcome : Always (Outcome i s) (storeFq asi ea s) := by
  unfold storeFq
  split
  · exact raiseFp_outcome 4
  · split
    · exact raiseFp_outcome 4
    · exact storeAt_outcome (spoils_firstWord hmem) fun key => (updates_store8 hmem s key _).trans (updates_popFq _)

theorem storeC_outcome : Always (Outcome i s) (storeC rd asi ea s) :=
  storeAt_outcome spoils_nothing fun key => (updates_store4 hmem s key _).trans Updates.unspoken

theorem storeCPair_outcome : Always (Outcome i s) (storeCPair rd asi ea s) :=
  storeAt_outcome (spoils_firstWord hmem) fun key => (updates_store8 hmem s key _).trans Updates.unspoken

theorem storeCsr_outcome : Always (Outcome i s) (storeCsr asi ea s) :=
  storeAt_outcome spoils_nothing fun key => (updates_store4 hmem s key _).trans Updates.unspoken

theorem storeCq_outcome : Always (Outcome i s) (storeCq asi ea s) := by
  unfold storeCq
  split
  · exact raiseCp_outcome
  · exact storeAt_outcome (spoils_firstWord hmem) fun key => (updates_store8 hmem s key _).trans (updates_popCq _)

theorem loadStoreByte_outcome : Always (Outcome i s) (loadStoreByte rd asi ea s) :=
  atomicAt_outcome (fun key => updates_store1 hmem s key _) fun _ t => updates_writeR t rd _

theorem swapWord_outcome : Always (Outcome i s) (swapWord rd asi ea s) :=
  atomicAt_outcome (fun key => updates_store4 hmem s key _) fun _ t => updates_writeR t rd _

end

/-! #### Integer arithmetic -/

theorem writeR_outcome (rd : RegNum) (v : Word) : Outcome i s (s.writeR rd v).advance :=
  .completed (updates_writeR s rd v).advance

theorem writeR_writeIcc_outcome (hicc : i.writesIcc = true) (rd : RegNum) (v : Word) (c : Icc) :
    Outcome i s ((s.writeR rd v).writeIcc c).advance :=
  .completed ((updates_writeR s rd v).trans (updates_writeIcc hicc _ c)).advance

theorem writeR_writeY_outcome (hy : i.writesY = true) (rd : RegNum) (v y : Word) :
    Outcome i s ((s.writeR rd v).writeY y).advance :=
  .completed ((updates_writeR s rd v).trans (updates_writeY hy _ y)).advance

theorem writeR_writeY_writeIcc_outcome (hy : i.writesY = true) (hicc : i.writesIcc = true) (rd : RegNum) (v y : Word)
    (c : Icc) : Outcome i s (((s.writeR rd v).writeY y).writeIcc c).advance :=
  .completed (((updates_writeR s rd v).trans (updates_writeY hy _ y)).trans (updates_writeIcc hicc _ c)).advance

theorem taggedTrap_outcome (hicc : i.writesIcc = true) {f : Word → Word → Word} {overflow : Word → Word → Word → Bool}
    {icc : Word → Word → Word → Icc} {rd rs1 : RegNum} {o : Operand2} :
    Always (Outcome i s) (taggedTrap f overflow icc rd rs1 o s) := by
  unfold taggedTrap
  dsimp only
  split
  · exact outcome_trap _
  · exact writeR_writeIcc_outcome hicc rd _ _

theorem mulscc_outcome (hy : i.writesY = true) (hicc : i.writesIcc = true) {rd rs1 : RegNum} {o : Operand2} :
    Always (Outcome i s) (execMulscc rd rs1 o s) :=
  .completed (((updates_writeR s rd _).trans (updates_writeIcc hicc _ _)).trans (updates_writeY hy _ _)).advance

theorem divide_outcome (hy : i.writesY = true) {quotient : Dword → Word → Word} {rd rs1 : RegNum} {o : Operand2} :
    Always (Outcome i s) (divide quotient rd rs1 o s) := by
  unfold divide
  dsimp only
  split
  · exact outcome_trap _
  · exact writeR_writeY_outcome hy rd _ _

theorem divideCc_outcome (hy : i.writesY = true) (hicc : i.writesIcc = true) {quotient : Dword → Word → Word}
    {overflow : Dword → Word → Bool} {rd rs1 : RegNum} {o : Operand2} :
    Always (Outcome i s) (divideCc quotient overflow rd rs1 o s) := by
  unfold divideCc
  dsimp only
  split
  · exact outcome_trap _
  · exact writeR_writeY_writeIcc_outcome hy hicc rd _ _ _

theorem moveWindow_outcome {w : BitVec 5} (hw : w.toNat < s.nWindows) {x : Trap} {rd rs1 : RegNum} {o : Operand2} :
    Always (Outcome i s) (moveWindow w x rd rs1 o s) := by
  unfold moveWindow
  split
  · exact outcome_trap _
  · have hlegal : w.toNat < (s.writeRW w rd (s.readR rs1 + s.op2val o)).nWindows := by
      simpa only [State.nWindows, State.writeRW_cfg] using hw
    exact .completed ((updates_writeRW s w rd _).trans (updates_writeCwp _ hlegal)).advance

/-! #### Control transfers -/

theorem branchTarget_aligned (disp22 : BitVec 22) (h : s.pc.toNat % 4 = 0) : (s.branchTarget disp22).toNat % 4 = 0 := by
  rw [branchTarget_eq, BitVec.toNat_add, BitVec.toNat_ofInt]
  omega

theorem callTarget_aligned (disp30 : BitVec 30) (h : s.pc.toNat % 4 = 0) : (s.callTarget disp30).toNat % 4 = 0 := by
  rw [State.callTarget, BitVec.toNat_add, BitVec.toNat_append, Nat.shiftLeft_eq]
  simp
  omega

theorem advance_annulNext_outcome (a : Bool) : Outcome i s (s.advance.annulNext a) :=
  .completed ((Updates.refl (s := s)).advance.updates Updates.unspoken)

theorem branchAlways_outcome (a : Bool) (disp22 : BitVec 22) : Outcome i s (s.branchAlways a disp22) :=
  .completed (((Updates.refl (s := s)).delayed (branchTarget_aligned disp22)).updates Updates.unspoken)

theorem branchIf_outcome (test a : Bool) (disp22 : BitVec 22) : Outcome i s (s.branchIf test a disp22) := by
  unfold State.branchIf
  split
  · exact .completed (Updates.refl.delayed (branchTarget_aligned disp22))
  · exact advance_annulNext_outcome a

theorem fbfcc_outcome {k : State → State} {a : Bool} {disp22 : BitVec 22} (hk : Outcome i s (k s)) :
    Always (Outcome i s) (fbfcc k a disp22 s) :=
  fbfcc_always outcome_trap takeDeferred_outcome raiseFp_outcome (branchAlways_outcome a disp22)
    (fun b => branchIf_outcome b a disp22) hk

theorem cbccc_outcome {k : State → State} (hk : Outcome i s (k s)) : Always (Outcome i s) (cbccc k s) :=
  cbccc_always outcome_trap raiseCp_outcome hk

theorem ticc_outcome {test : Bool} {rs1 : RegNum} {o : TrapOperand} : Always (Outcome i s) (ticc test rs1 o s) := by
  unfold ticc
  split
  · exact outcome_trap _
  · exact .completed Updates.refl.advance

theorem jmpl_outcome {rd rs1 : RegNum} {o : Operand2} : Always (Outcome i s) (execJmpl rd rs1 o s) := by
  unfold execJmpl
  dsimp only
  split
  · exact outcome_trap _
  next h =>
    have ha : (s.effectiveAddress rs1 o).toNat % 4 = 0 := (targetAligned_iff _).mp (by simpa using h)
    exact .completed (((updates_writeR s rd _).delayed fun _ => ha).updates Updates.unspoken)

/-- With traps disabled a failing check of RETT is the trap condition too. -/
theorem rett_outcome {rs1 : RegNum} {o : Operand2} : Always (Outcome i s) (execRett rs1 o s) := by
  unfold execRett rettChecks
  split
  · split <;> exact outcome_trap _
  next he =>
    have hhalt (x : Trap) : Outcome i s (s.errorHalt x) :=
      State.trap_of_not_et (Bool.eq_false_iff.mpr he) x ▸ outcome_trap x
    split
    · exact hhalt _
    next hs =>
      split
      · exact hhalt _
      · split
        · exact hhalt _
        next ha => exact .returned _ (by simpa using hs) ((targetAligned_iff _).mp (by simpa using ha))

/-! #### State registers (48_state_reg_misc) -/

theorem readPrivileged_outcome {v : Word} {rd : RegNum} : Always (Outcome i s) (readPrivileged v rd s) := by
  unfold readPrivileged
  split
  · exact outcome_trap _
  · exact writeR_outcome rd v

theorem asrAccess_outcome {n : RegNum} {k : State → Out} (hk : Always (Outcome i s) (k s)) :
    Always (Outcome i s) (asrAccess n k s) := by
  unfold asrAccess
  split
  · exact outcome_trap _
  · split
    · exact outcome_trap _
    · exact hk

theorem rdasr_outcome {rd : RegNum} {source : AsrSource} : Always (Outcome i s) (execRdasr rd source s) := by
  unfold execRdasr
  split
  · exact asrAccess_outcome (writeR_outcome rd _)
  · exact writeR_outcome rd _

theorem updates_y (hW : W.y = true) (s : State) (v : Word) : Updates W s { s with y := v } := by
  constructor
  case toKept =>
    constructor
    case settled => exact id
    all_goals simp [hW]
  all_goals simp

theorem wry_outcome (hy : i.writesY = true) {rs1 : RegNum} {o : Operand2} : Always (Outcome i s) (execWry rs1 o s) :=
  .completed ((updates_y hy s _).advance.updates (updates_openWindow _ (by decide) _ _))

theorem writeAsr_outcome (n : RegNum) (v : Word) : Outcome i s (s.writeAsr n v) :=
  .completed ((Updates.unspoken (s := s)).advance.updates (updates_openWindow _ (r := .asr n) (by simp) _ _))

theorem wrasr_outcome {rd rs1 : RegNum} {o : AsrOperand} : Always (Outcome i s) (execWrasr rd rs1 o s) := by
  unfold execWrasr
  split
  · exact asrAccess_outcome (writeAsr_outcome rd _)
  · exact writeAsr_outcome rd _

theorem wrpsr_outcome (hi : i.isWrpsr = true) {rs1 : RegNum} {o : Operand2} :
    Always (Outcome i s) (execWrpsr rs1 o s) := by
  unfold execWrpsr
  dsimp only
  split
  · exact outcome_trap _
  next hs =>
    split
    · exact outcome_trap _
    next hcwp => exact .wrotePsr _ hi (by simpa using hs) (Nat.lt_of_not_le hcwp)

theorem wrwim_outcome (hi : i.isWrwim = true) {rs1 : RegNum} {o : Operand2} :
    Always (Outcome i s) (execWrwim rs1 o s) := by
  unfold execWrwim
  split
  · exact outcome_trap _
  next hs => exact .wroteWim _ hi (by simpa using hs)

theorem wrtbr_outcome (hi : i.isWrtbr = true) {rs1 : RegNum} {o : Operand2} :
    Always (Outcome i s) (execWrtbr rs1 o s) := by
  unfold execWrtbr
  split
  · exact outcome_trap _
  next hs => exact .wroteTbr _ hi (by simpa using hs)

theorem flush_outcome {rs1 : RegNum} {o : Operand2} : Always (Outcome i s) (execFlush rs1 o s) := by
  unfold execFlush
  split
  · exact outcome_trap _
  · exact outcome_trap _
  · exact .completed ((Updates.refl (s := s)).advance.updates Updates.unspoken)

/-! #### FPops and CPops -/

theorem fpopReady_outcome {k : State → Out} (hk : Always (Outcome i s) (k s)) : Always (Outcome i s) (fpopReady k s) :=
  fpopReady_always outcome_trap takeDeferred_outcome raiseFp_outcome hk

theorem fpopChecks_outcome {regs : List (Prec × RegNum)} {k : State → Out} (hk : Always (Outcome i s) (k s)) :
    Always (Outcome i s) (fpopChecks regs k s) :=
  fpopChecks_always outcome_trap takeDeferred_outcome raiseFp_outcome hk

theorem fpComplete_outcome {exc : BitVec 5} {write last : State → State} (hw : ∀ t, Updates (writesOf i) t (write t))
    (hl : ∀ t, Updates (writesOf i) t (last t)) : Always (Outcome i s) (fpComplete exc write last s) := by
  unfold fpComplete
  split
  · exact .completed (((Updates.unspoken (s := s)).trans (hw _)).advance.updates (hl _))
  · split
    · exact .completed ((Updates.unspoken (s := s)).advance.updates (hl _))
    · exact outcome_of_enabled ⟨Updates.unspoken, rfl, rfl⟩ rfl .fpException

section
variable (hf : i.writesF = true)
include hf

theorem fpResult_outcome {dst : Prec} {rd : RegNum} {r : FpResult} : Always (Outcome i s) (fpResult dst rd r s) :=
  fpComplete_outcome (fun t => updates_writeFp hf t dst rd _) fun _ => Updates.refl

theorem fpUnary_outcome {src dst : Prec} {op : FpEnv → Nat → FpResult} {rd rs2 : RegNum} :
    Always (Outcome i s) (fpUnary src dst op rd rs2 s) :=
  fpopChecks_outcome (fpResult_outcome hf)

theorem fpBinary_outcome {src dst : Prec} {op : FpEnv → Nat → Nat → FpResult} {rd rs1 rs2 : RegNum} :
    Always (Outcome i s) (fpBinary src dst op rd rs1 rs2 s) :=
  fpopChecks_outcome (fpResult_outcome hf)

theorem fpConvertInt_outcome {dst : Prec} {rd rs2 : RegNum} : Always (Outcome i s) (fpConvertInt dst rd rs2 s) :=
  fpopChecks_outcome (fpResult_outcome hf)

theorem fpMove_outcome {f : Word → Word} {rd rs2 : RegNum} : Always (Outcome i s) (fpMove f rd rs2 s) :=
  fpopChecks_outcome (fpComplete_outcome (fun t => updates_writeF hf t rd _) fun _ => Updates.refl)

end

theorem fpCompareInstr_outcome {p : Prec} {q : Bool} {rs1 rs2 : RegNum} :
    Always (Outcome i s) (fpCompareInstr p q rs1 rs2 s) :=
  fpopChecks_outcome (fpComplete_outcome (fun _ => Updates.unspoken) fun _ => Updates.unspoken)

theorem cpop_outcome {k : State → Cp} : Always (Outcome i s) (cpop k s) :=
  cpop_always outcome_trap raiseCp_outcome (.completed (Updates.unspoken (s := s)).advance)

theorem spoils_writeF (hW : W.f = true) (s : State) (n : RegNum) (v : Word) : Spoils W s (s.writeF n v) :=
  ⟨updates_writeF hW s n v, rfl, rfl⟩

theorem spoils_writeFd (hW : W.f = true) (s : State) (n : RegNum) (v : Dword) : Spoils W s (s.writeFd n v) :=
  ⟨updates_writeFd hW s n v, rfl, rfl⟩

section
variable (hf : i.writesF = true) (rd : RegNum) (asi : Asi) (ea : Word)
include hf

theorem loadF_outcome : Always (Outcome i s) (loadAt 4 Memory.read4 (State.writeF rd) (spoilF rd) asi ea s) :=
  loadAt_outcome (spoils_writeF hf s rd _) (updates_writeF hf s rd)

theorem loadFd_outcome : Always (Outcome i s) (loadAt 8 Memory.read8 (State.writeFd rd) (spoilFd rd) asi ea s) :=
  loadAt_outcome (spoils_writeFd hf s rd _) (updates_writeFd hf s rd)

end

section
variable (rd : RegNum) (asi : Asi) (ea : Word)

theorem loadC_outcome : Always (Outcome i s) (loadAt 4 Memory.read4 (State.loadC rd) (spoilC rd) asi ea s) :=
  loadAt_outcome ⟨Updates.unspoken, rfl, rfl⟩ fun _ => Updates.unspoken

theorem loadCPair_outcome : Always (Outcome i s) (loadAt 8 Memory.read8 (State.loadCPair rd) (spoilCPair rd) asi ea s) :=
  loadAt_outcome ⟨Updates.unspoken, rfl, rfl⟩ (updates_loadCPair s rd)

theorem loadCsr_outcome : Always (Outcome i s) (loadAt 4 Memory.read4 State.loadCsr spoilCsr asi ea s) :=
  loadAt_outcome ⟨Updates.unspoken, rfl, rfl⟩ fun _ => Updates.unspoken

end

/-! ### Every instruction -/

theorem fpop_outcome (hi : i.fpop = true) (s : State) : Always (Outcome i s) (exec i s) := by
  cases i
  case fitos | fitod | fitoq => rw [exec]; exact fpConvertInt_outcome rfl
  case fstoi | fdtoi | fqtoi | fstod | fstoq | fdtos | fdtoq | fqtos | fqtod | fsqrts | fsqrtd | fsqrtq =>
    rw [exec]; exact fpUnary_outcome rfl
  case fmovs | fnegs | fabss => rw [exec]; exact fpMove_outcome rfl
  case fadds | faddd | faddq | fsubs | fsubd | fsubq | fmuls | fmuld | fmulq | fsmuld | fdmulq | fdivs | fdivd | fdivq =>
    rw [exec]; exact fpBinary_outcome rfl
  case fcmps | fcmpd | fcmpq | fcmpes | fcmped | fcmpeq => rw [exec]; exact fpCompareInstr_outcome
  all_goals cases hi

theorem usesFpu_outcome (hi : i.usesFpu = true) (s : State) : Always (Outcome i s) (exec i s) := by
  cases i
  case fba => rw [exec]; exact fbfcc_outcome (branchAlways_outcome _ _)
  case fbn => rw [exec]; exact fbfcc_outcome (advance_annulNext_outcome _)
  case fbu | fbg | fbug | fbl | fbul | fblg | fbne | fbe | fbue | fbge | fbuge | fble | fbule | fbo =>
    rw [exec]; exact fbfcc_outcome (branchIf_outcome _ _ _)
  case ldf rd _ _ => rw [exec]; exact fpAccess_outcome (loadF_outcome rfl rd)
  case lddf rd _ _ => rw [exec]; exact fpAccess_outcome (loadFd_outcome rfl rd)
  case ldfsr => rw [exec]; exact fpAccess_outcome loadFsrAt_outcome
  case stf rd _ _ => rw [exec]; exact fpAccess_outcome (storeF_outcome rfl rd)
  case stdf rd _ _ => rw [exec]; exact fpAccess_outcome (storeFd_outcome rfl rd)
  case stfsr => rw [exec]; exact fpAccess_outcome (storeFsr_outcome rfl)
  case stdfq => rw [exec]; exact fpAccess_outcome (storeFq_outcome rfl)
  all_goals
    refine fpop_outcome ?_ s
    exact hi

theorem usesCp_outcome (hi : i.usesCp = true) (s : State) : Always (Outcome i s) (exec i s) := by
  cases i
  case cba => rw [exec]; exact cbccc_outcome (branchAlways_outcome _ _)
  case cbn => rw [exec]; exact cbccc_outcome (advance_annulNext_outcome _)
  case cb3 | cb2 | cb23 | cb1 | cb13 | cb12 | cb123 | cb0 | cb03 | cb02 | cb023 | cb01 | cb013 | cb012 =>
    rw [exec]; exact cbccc_outcome (branchIf_outcome _ _ _)
  case ldc rd _ _ => rw [exec]; exact cpAccess_outcome (loadC_outcome rd)
  case lddc rd _ _ => rw [exec]; exact cpAccess_outcome (loadCPair_outcome rd)
  case ldcsr => rw [exec]; exact cpAccess_outcome loadCsr_outcome
  case stc rd _ _ => rw [exec]; exact cpAccess_outcome (storeC_outcome rfl rd)
  case stdc rd _ _ => rw [exec]; exact cpAccess_outcome (storeCPair_outcome rfl rd)
  case stcsr => rw [exec]; exact cpAccess_outcome (storeCsr_outcome rfl)
  case stdcq =>
    rw [exec, execStdcq]
    split
    · exact outcome_trap _
    · exact cpAccess_outcome (storeCq_outcome rfl)
  case cpop1 | cpop2 => rw [exec]; exact cpop_outcome
  all_goals cases hi

theorem integerStore_outcome (hi : i.writesMemory = true) (hfpu : i.usesFpu = false) (hcp : i.usesCp = false) (s : State) :
    Always (Outcome i s) (exec i s) := by
  cases i
  case stb rd _ _ => rw [exec]; exact ordinary_outcome (storeByte_outcome rfl rd)
  case sth rd _ _ => rw [exec]; exact ordinary_outcome (storeHalf_outcome rfl rd)
  case st rd _ _ => rw [exec]; exact ordinary_outcome (storeWord_outcome rfl rd)
  case std rd _ _ => rw [exec]; exact ordinary_outcome (storePair_outcome rfl rd)
  case stba rd _ _ => rw [exec]; exact alternate_outcome (storeByte_outcome rfl rd)
  case stha rd _ _ => rw [exec]; exact alternate_outcome (storeHalf_outcome rfl rd)
  case sta rd _ _ => rw [exec]; exact alternate_outcome (storeWord_outcome rfl rd)
  case stda rd _ _ => rw [exec]; exact alternate_outcome (storePair_outcome rfl rd)
  case ldstub rd _ _ => rw [exec]; exact ordinary_outcome (loadStoreByte_outcome rfl rd)
  case ldstuba rd _ _ => rw [exec]; exact alternate_outcome (loadStoreByte_outcome rfl rd)
  case swap rd _ _ => rw [exec]; exact ordinary_outcome (swapWord_outcome rfl rd)
  case swapa rd _ _ => rw [exec]; exact alternate_outcome (swapWord_outcome rfl rd)
  case stf | stdf | stfsr | stdfq => cases hfpu
  case stc | stdc | stcsr | stdcq => cases hcp
  all_goals cases hi

/-- The instructions that write icc or Y. -/
theorem flags_outcome (hi : (i.writesIcc || i.writesY) = true) (s : State) : Always (Outcome i s) (exec i s) := by
  cases i
  case andcc | andncc | orcc | orncc | xorcc | xnorcc | addcc | addxcc | taddcc | subcc | subxcc | tsubcc =>
    exact writeR_writeIcc_outcome rfl _ _ _
  case taddcctv | tsubcctv => rw [exec]; exact taggedTrap_outcome rfl
  case mulscc => rw [exec]; exact mulscc_outcome rfl rfl
  case umul | smul => exact writeR_writeY_outcome rfl _ _ _
  case umulcc | smulcc => exact writeR_writeY_writeIcc_outcome rfl rfl _ _ _ _
  case udiv | sdiv => rw [exec]; exact divide_outcome rfl
  case udivcc | sdivcc => rw [exec]; exact divideCc_outcome rfl rfl
  case wry => rw [exec]; exact wry_outcome rfl
  case wrpsr => rw [exec]; exact wrpsr_outcome rfl
  all_goals cases hi

/-- Every next state of an instruction has one of the forms of `Outcome`. -/
theorem exec_outcome (i : Instr) (s : State) : Always (Outcome i s) (exec i s) := by
  cases hfpu : i.usesFpu
  case true => exact usesFpu_outcome hfpu s
  cases hcp : i.usesCp
  case true => exact usesCp_outcome hcp s
  cases hmem : i.writesMemory
  case true => exact integerStore_outcome hmem hfpu hcp s
  cases hflags : i.writesIcc || i.writesY
  case true => exact flags_outcome hflags s
  have hother : (i.usesFpu || i.usesCp || i.writesMemory || (i.writesIcc || i.writesY)) = false := by
    rw [hfpu, hcp, hmem, hflags]; rfl
  clear hfpu hcp hmem hflags
  cases i
  case nop | stbar => exact .completed Updates.refl.advance
  case unimp => exact outcome_trap _
  case sethi | and | andn | or | orn | xor | xnor | sll | srl | sra | add | addx | sub | subx | rdy =>
    exact writeR_outcome _ _
  case ba => exact branchAlways_outcome _ _
  case bn => exact advance_annulNext_outcome _
  case bne | be | bg | ble | bge | bl | bgu | bleu | bcc | bcs | bpos | bneg | bvc | bvs => exact branchIf_outcome _ _ _
  case call disp30 => exact .completed ((updates_writeR s 15 _).delayed (callTarget_aligned disp30))
  case jmpl => rw [exec]; exact jmpl_outcome
  case rett => rw [exec]; exact rett_outcome
  case ta | tn | tne | te | tg | tle | tge | tl | tgu | tleu | tcc | tcs | tpos | tneg | tvc | tvs =>
    rw [exec]; exact ticc_outcome
  case ldsb | ldsh | ldub | lduh | ld => rw [exec]; exact ordinary_outcome loadInteger_outcome
  case ldsba | ldsha | lduba | lduha | lda => rw [exec]; exact alternate_outcome loadInteger_outcome
  case ldd => rw [exec]; exact ordinary_outcome loadDouble_outcome
  case ldda => rw [exec]; exact alternate_outcome loadDouble_outcome
  case save | restore => rw [exec]; exact moveWindow_outcome (s.window_lt _)
  case rdasr => rw [exec]; exact rdasr_outcome
  case rdpsr | rdwim | rdtbr => rw [exec]; exact readPrivileged_outcome
  case wrasr => rw [exec]; exact wrasr_outcome
  case wrwim => rw [exec]; exact wrwim_outcome rfl
  case wrtbr => rw [exec]; exact wrtbr_outcome rfl
  case flush => rw [exec]; exact flush_outcome
  all_goals cases hother

end Sys2Proof.Machine
end

section
/-! What a step can do, from what an instruction can do, and what follows for every step: the invariant, user mode, error_mode
and who writes what. -/

namespace Sys2Proof.Machine

variable {W : Writes} {i : Instr} {s t u : State}

/-! ### The forms of a step (10_state R27) -/

theorem Always.mono {P Q : State → Prop} {o : Out} (h : Always P o) (hPQ : ∀ t, P t → Q t) : Always Q o := by
  cases o with
  | next t => exact hPQ t h
  | fault _ => trivial
  | refused _ => trivial

/-- A trap condition that no instruction has met has the form that every instruction may have. -/
theorem execWord_outcome (w : Word) (s : State) : Always (fun t => ∃ i, Outcome i s t) (execWord w s) := by
  have hraise (x : Trap) : Always (fun t => ∃ i, Outcome i s t) (s.raise x) := ⟨.nop, outcome_trap x⟩
  have hfpop : Always (fun t => ∃ i, Outcome i s t) (fpopUnimplemented s) :=
    Always.mono (fpopReady_outcome (i := .nop) (raiseFp_outcome 3)) fun _ h => ⟨_, h⟩
  unfold execWord
  split
  · exact hraise _
  · exact hfpop
  next i _ =>
    split
    · trivial
    · split
      · exact hraise _
      · split
        · unfold execUnimplemented
          split
          · exact hfpop
          · split <;> exact hraise _
        · exact Always.mono (exec_outcome i s) fun _ h => ⟨i, h⟩

theorem execFetched_outcome (f : Fetched) (s : State) : Always (fun t => ∃ i, Outcome i s t) (execFetched f s) := by
  cases f with
  | word w => exact execWord_outcome w s
  | trap x => exact ⟨.nop, outcome_trap x⟩
  | absent _ => trivial
  | unwritten => trivial

/-- The forms of a step. -/
inductive Stepped (s : State) : State → Prop
  | reset (h : s.resetReq = true) : Stepped s s.takeReset
  | storeError : Stepped s s.takeStoreError
  | interrupt (h : s.interruptTaken = true) : Stepped s s.takeInterrupt
  | skipped : Stepped s s.skip
  | ran {t : State} (i : Instr) (h : Outcome i s t) : Stepped s t

theorem step_always (s : State) : Always (Stepped s) (step s) := by
  unfold step
  split
  next h => exact .reset h
  split
  · trivial
  split
  · exact .storeError
  split
  next h => exact .interrupt h
  split
  · exact .skipped
  · exact Always.mono (execFetched_outcome s.fetch s) fun _ ⟨i, h⟩ => .ran i h

theorem stepped_of_step (h : step s = .next t) : Stepped s t := Always.of_next (step_always s) h

/-! ### The invariant (10_state R22, R23, R26, R35, R36) -/

theorem Kept.inv (h : Kept W s t) (hi : Inv s) (hpc : t.pc.toNat % 4 = 0) (hnpc : t.npc.toNat % 4 = 0) : Inv t where
  pcAligned := hpc
  npcAligned := hnpc
  cwpLegal := by simpa only [State.nWindows, h.cfg] using h.cwpLegal hi.cwpLegal
  wimLegal := by simpa only [State.windowMask, State.nWindows, h.cfg, h.wim] using hi.wimLegal
  globalZero := h.globalZero hi.globalZero
  memoryCanonical := h.canonical hi.memoryCanonical

theorem Updates.inv (h : Updates W s t) (hi : Inv s) : Inv t :=
  h.toKept.inv hi (h.pc.symm ▸ hi.pcAligned) (h.npc.symm ▸ hi.npcAligned)

theorem Completes.inv (h : Completes W s t) (hi : Inv s) : Inv t :=
  h.toKept.inv hi (h.pc.symm ▸ hi.npcAligned) (h.npcAligned hi.pcAligned hi.npcAligned)

/-- The entries of the trap table are four words apart (10_state R37). -/
theorem vector_aligned (s : State) (tt : BitVec 8) : (s.vector tt).toNat % 4 = 0 := by
  rw [State.vector, BitVec.toNat_append, Nat.shiftLeft_eq]
  simp
  omega

theorem trapEntry_inv (hi : Inv s) (tt : BitVec 8) : Inv (s.trapEntry tt) where
  pcAligned := vector_aligned s tt
  npcAligned := add_four_aligned (vector_aligned s tt)
  cwpLegal := by
    obtain ⟨-, -, -, hcwp, -⟩ := s.trapEntry_spec tt
    simpa only [hcwp, State.nWindows, State.trapEntry_cfg, State.prevWindow] using s.window_lt _
  wimLegal := by
    simpa only [State.windowMask, State.nWindows, State.trapEntry_cfg, State.trapEntry_wim] using hi.wimLegal
  globalZero :=
    writeRW_globalZero (s.writeRW (s.prevWindow s.trapCwp) 17 s.pc) (s.prevWindow s.trapCwp) 18 s.npc
      (writeRW_globalZero s (s.prevWindow s.trapCwp) 17 s.pc hi.globalZero)
  memoryCanonical := (s.trapEntry_mem tt).symm ▸ hi.memoryCanonical

theorem errorHalt_inv (hi : Inv s) (x : Trap) : Inv (s.errorHalt x) :=
  ⟨hi.pcAligned, hi.npcAligned, hi.cwpLegal, hi.wimLegal, hi.globalZero, hi.memoryCanonical⟩

theorem trap_inv (hi : Inv s) (x : Trap) : Inv (s.trap x) := by
  unfold State.trap
  split
  · exact trapEntry_inv hi _
  · exact errorHalt_inv hi x

theorem discardAnnulled_inv (hi : Inv s) : Inv s.discardAnnulled := by
  unfold State.discardAnnulled
  split
  · exact ⟨hi.npcAligned, add_four_aligned hi.npcAligned, hi.cwpLegal, hi.wimLegal, hi.globalZero, hi.memoryCanonical⟩
  · exact hi

theorem writePsr_inv (hi : Inv s) {v : Word} (hv : (v.extractLsb' 0 5).toNat < s.nWindows) : Inv (s.writePsr v) :=
  ⟨hi.npcAligned, add_four_aligned hi.npcAligned, hv, hi.wimLegal, hi.globalZero, hi.memoryCanonical⟩

theorem writeWim_inv (hi : Inv s) (v : Word) : Inv (s.writeWim v) := by
  refine ⟨hi.npcAligned, add_four_aligned hi.npcAligned, hi.cwpLegal, ?_, hi.globalZero, hi.memoryCanonical⟩
  show v &&& s.windowMask &&& ~~~s.windowMask = 0
  rw [BitVec.and_assoc, BitVec.and_not_self]
  exact BitVec.and_zero

theorem writeTbr_inv (hi : Inv s) (v : Word) : Inv (s.writeTbr v) :=
  ⟨hi.npcAligned, add_four_aligned hi.npcAligned, hi.cwpLegal, hi.wimLegal, hi.globalZero, hi.memoryCanonical⟩

theorem returnFromTrap_inv (hi : Inv s) {target : Word} (ha : target.toNat % 4 = 0) : Inv (s.returnFromTrap target) := by
  have hlegal := s.window_lt (s.seenCwp.toNat + 1)
  have hcwp : Inv (s.writeCwp (s.nextWindow s.seenCwp)) := (updates_writeCwp (W := writesOf .nop) s hlegal).inv hi
  obtain ⟨sup, et, ps, hwrites⟩ := (s.writeCwp (s.nextWindow s.seenCwp)).writeMode_writes s.seenPs
  rw [State.returnFromTrap_eq, hwrites]
  exact ⟨hcwp.npcAligned, ha, hcwp.cwpLegal, hcwp.wimLegal, hcwp.globalZero, hcwp.memoryCanonical⟩

theorem Outcome.inv (h : Outcome i s t) (hi : Inv s) : Inv t := by
  cases h with
  | trapped x hu => exact trap_inv (hu.inv hi) x
  | completed ht => exact ht.inv hi
  | wrotePsr v _ _ hcwp => exact writePsr_inv hi hcwp
  | wroteWim v => exact writeWim_inv hi v
  | wroteTbr v => exact writeTbr_inv hi v
  | returned target _ ha => exact returnFromTrap_inv hi ha

theorem Stepped.inv (h : Stepped s t) (hi : Inv s) : Inv t := by
  cases h with
  | reset => exact ⟨rfl, (rfl : (4#32).toNat % 4 = 0), hi.cwpLegal, hi.wimLegal, hi.globalZero, hi.memoryCanonical⟩
  | storeError =>
    have hreported : Inv { s with storeError := false } :=
      ⟨hi.pcAligned, hi.npcAligned, hi.cwpLegal, hi.wimLegal, hi.globalZero, hi.memoryCanonical⟩
    exact trap_inv (discardAnnulled_inv hreported) _
  | interrupt => exact trapEntry_inv (discardAnnulled_inv hi) _
  | skipped =>
    exact ⟨hi.npcAligned, add_four_aligned hi.npcAligned, hi.cwpLegal, hi.wimLegal, hi.globalZero, hi.memoryCanonical⟩
  | ran i h => exact h.inv hi

/-! ### User mode (60 R490 to R492) -/

theorem openMask_of_closed {r : StateReg} (h : s.inWindow r = false) : s.openMask r = 0 := by
  have hfold (ps : List PendingWrite) (m : Word) (hps : ∀ p ∈ ps, p.reg ≠ r) :
      ps.foldl (fun m p => if p.reg = r then m ||| p.changed else m) m = m := by
    induction ps with
    | nil => rfl
    | cons p ps ih =>
      rw [List.foldl_cons, if_neg (hps p List.mem_cons_self)]
      exact ih fun q hq => hps q (List.mem_cons_of_mem p hq)
  exact hfold s.pending 0 (by simpa [State.inWindow] using h)

theorem seenS_of_closed (h : s.inWindow .psr = false) : s.seenS = s.psr.s := by
  simp [State.seenS, State.psrOpen, openMask_of_closed h]

/-- No old value of a register is left for a trap to use (70 R525). -/
theorem olds_of_closed {r : StateReg} (h : s.inWindow r = false) : s.olds r = [] := by
  have hnone : ∀ p ∈ s.pending, p.mayUseOld r = false := by
    intro p hp
    have hreg : (p.reg == r) = false := by simpa using (List.any_eq_false.mp h) p hp
    simp [PendingWrite.mayUseOld, hreg]
  simpa [State.olds] using hnone

theorem throughTrap_settled (h : PrivilegedSettled s) (hu : u.pending = s.pending.map PendingWrite.throughTrap) :
    PrivilegedSettled u := by
  refine settled_of_inWindow (fun r => ?_) h
  rw [State.inWindow, hu, List.any_map]
  rfl

/-- What a step taken in user mode may do to the privileged state (60 R490 to R492, R480, R481). -/
def Confined (s t : State) : Prop :=
  PrivilegedSettled t ∧
    t.wim = s.wim ∧ t.tbr.tba = s.tbr.tba ∧ t.psr.ec = s.psr.ec ∧ t.psr.ef = s.psr.ef ∧ t.psr.pil = s.psr.pil ∧
    (t.psr.s = true → ∃ tt : BitVec 8, t.pc = s.tbr.tba ++ tt ++ 0#4 ∧ t.tbr.tt = tt ∧ t.psr.et = false ∧ t.psr.ps = false)

theorem trapEntry_confined (hp : PrivilegedSettled s) (hs : s.psr.s = false) (tt : BitVec 8) :
    Confined s (s.trapEntry tt) := by
  have ⟨hpsr, _, htbr⟩ := hp
  refine ⟨throughTrap_settled hp rfl, s.trapEntry_wim tt, rfl, rfl, rfl, rfl, fun _ => ⟨tt, ?_, rfl, rfl, ?_⟩⟩
  · show s.vector tt = _
    rw [State.vector, State.trapTba, olds_of_closed htbr, List.map_nil, State.pick_nil]
  · show s.trapS = false
    rw [State.trapS, olds_of_closed hpsr, List.map_nil, State.pick_nil, hs]

theorem trap_confined (hp : PrivilegedSettled s) (hs : s.psr.s = false) (x : Trap) : Confined s (s.trap x) := by
  unfold State.trap
  split
  · exact trapEntry_confined hp hs _
  · exact ⟨hp, rfl, rfl, rfl, rfl, rfl, fun h => absurd (hs.symm.trans h) nofun⟩

/-- A trap that finds the privileged state as the step did. -/
theorem Confined.of_same (h : Confined u t) (hwim : u.wim = s.wim) (htbr : u.tbr = s.tbr) (hpsr : u.psr = s.psr) :
    Confined s t := by
  simpa only [Confined, hwim, htbr, hpsr] using h

theorem Outcome.confined (h : Outcome i s t) (hp : PrivilegedSettled s) (hs : s.psr.s = false) : Confined s t := by
  have huser : s.seenS ≠ true := by rw [seenS_of_closed hp.1, hs]; nofun
  cases h with
  | trapped x hu =>
    exact (trap_confined (hu.settled hp) (hu.supervisor.trans hs) x).of_same hu.wim hu.tbr hu.psr
  | completed ht =>
    exact ⟨ht.settled hp, ht.wim, congrArg Tbr.tba ht.tbr, ht.ec, ht.ef, ht.pil,
      fun h => absurd (ht.supervisor.trans hs ▸ h) nofun⟩
  | wrotePsr _ _ hsup => exact absurd hsup huser
  | wroteWim _ _ hsup => exact absurd hsup huser
  | wroteTbr _ _ hsup => exact absurd hsup huser
  | returned _ hsup => exact absurd hsup huser

theorem discardAnnulled_same (s : State) : s.discardAnnulled.wim = s.wim ∧ s.discardAnnulled.tbr = s.tbr ∧
    s.discardAnnulled.psr = s.psr ∧ s.discardAnnulled.pending = s.pending ∧
    s.discardAnnulled.errorMode = s.errorMode := by
  unfold State.discardAnnulled
  split <;> exact ⟨rfl, rfl, rfl, rfl, rfl⟩

theorem Stepped.confined (h : Stepped s t) (hp : PrivilegedSettled s) (hs : s.psr.s = false) (hr : s.resetReq = false) :
    Confined s t := by
  have hdiscard (u : State) (hu : PrivilegedSettled u) : PrivilegedSettled u.discardAnnulled :=
    settled_of_inWindow (fun r => by
      obtain ⟨-, -, -, hpending, -⟩ := discardAnnulled_same u
      rw [State.inWindow, hpending]
      rfl) hu
  cases h with
  | reset h => exact absurd (hr.symm.trans h) nofun
  | storeError =>
    obtain ⟨hwim, htbr, hpsr, -, -⟩ := discardAnnulled_same { s with storeError := false }
    exact (trap_confined (hdiscard { s with storeError := false } hp) ((congrArg Psr.s hpsr).trans hs) _).of_same hwim htbr hpsr
  | interrupt =>
    obtain ⟨hwim, htbr, hpsr, -, -⟩ := discardAnnulled_same s
    exact (trapEntry_confined (hdiscard _ hp) ((congrArg Psr.s hpsr).trans hs) _).of_same hwim htbr hpsr
  | skipped => exact ⟨hp, rfl, rfl, rfl, rfl, rfl, fun h => absurd (hs.symm.trans h) nofun⟩
  | ran i h => exact h.confined hp hs

/-! ### error_mode (10_state R50, 60 R484, D11) -/

/-- A trap condition that enters error_mode found traps disabled and left the PSR. -/
theorem trap_errorMode (hp : s.pending = []) (he : s.errorMode = false) {x : Trap} (h : (s.trap x).errorMode = true) :
    s.psr.et = false ∧ (s.trap x).psr = s.psr := by
  obtain ⟨-, -, -, -, -, -, hseen, -⟩ := State.seen_of_noPending hp
  cases het : s.seenEt with
  | true => rw [State.trap_of_et het, State.trapEntry_errorMode, he] at h; cases h
  | false => exact ⟨hseen.symm.trans het, by rw [State.trap_of_not_et het, State.errorHalt_psr]⟩

theorem Outcome.errorMode (h : Outcome i s t) (hp : s.pending = []) (he : s.errorMode = false) (ht : t.errorMode = true) :
    s.psr.et = false ∧ t.psr = s.psr := by
  have hnever (u : State) (hu : u.errorMode = s.errorMode) : u.errorMode ≠ true := by rw [hu, he]; nofun
  cases h with
  | trapped x hu =>
    have h := trap_errorMode (hu.pending.trans hp) (hu.errorMode.trans he) ht
    rwa [hu.psr] at h
  | completed h => exact absurd ht (hnever _ h.errorMode)
  | wrotePsr => exact absurd ht (hnever _ rfl)
  | wroteWim => exact absurd ht (hnever _ rfl)
  | wroteTbr => exact absurd ht (hnever _ rfl)
  | returned target =>
    obtain ⟨-, hframe⟩ := s.returnFromTrap_transferred target
    exact absurd ht (hnever _ (hframe .errorMode (by decide)))

theorem Stepped.errorMode (h : Stepped s t) (hp : s.pending = []) (he : s.errorMode = false) (ht : t.errorMode = true) :
    s.psr.et = false ∧ t.psr = s.psr := by
  cases h with
  | reset => cases ht
  | storeError =>
    obtain ⟨-, -, hpsr, hpending, herror⟩ := discardAnnulled_same { s with storeError := false }
    have h := trap_errorMode (hpending.trans hp) (herror.trans he) ht
    rwa [hpsr] at h
  | interrupt =>
    obtain ⟨-, -, -, -, herror⟩ := discardAnnulled_same s
    rw [State.takeInterrupt, State.trapEntry_errorMode, herror, he] at ht
    cases ht
  | skipped => exact absurd (he.symm.trans ht) nofun
  | ran i h => exact h.errorMode hp he ht

/-! ### Who writes what (10_state R29, R36 to R38, R52) -/

@[simp] theorem State.trap_tba (s : State) (x : Trap) : (s.trap x).tbr.tba = s.tbr.tba := by
  unfold State.trap
  split <;> rfl

theorem writesIcc_of_isWrpsr (h : i.isWrpsr = true) : i.writesIcc = true := by
  cases i
  case wrpsr => rfl
  all_goals cases h

/-- What an instruction of a next state `t` may have written. -/
def WritesOnly (i : Instr) (s t : State) : Prop :=
  (i.writesIcc = false → t.psr.icc = s.psr.icc) ∧ (i.writesY = false → t.y = s.y) ∧
    (i.isWrwim = false → t.wim = s.wim) ∧ (i.isWrtbr = false → t.tbr.tba = s.tbr.tba) ∧
    (i.isWrpsr = false → t.psr.ec = s.psr.ec ∧ t.psr.ef = s.psr.ef ∧ t.psr.pil = s.psr.pil) ∧
    (i.writesF = false → t.f = s.f) ∧ (i.writesMemory = false → t.mem = s.mem)

theorem Kept.writesOnly (h : Kept (writesOf i) s t) : WritesOnly i s t :=
  ⟨h.icc, h.y, fun _ => h.wim, fun _ => congrArg Tbr.tba h.tbr, fun _ => ⟨h.ec, h.ef, h.pil⟩, h.f, h.mem⟩

/-- A trap writes none of these parts. -/
theorem WritesOnly.trap (h : WritesOnly i s u) (x : Trap) : WritesOnly i s (u.trap x) := by
  simpa [WritesOnly] using h

theorem returnFromTrap_writesOnly (s : State) (target : Word) : WritesOnly i s (s.returnFromTrap target) := by
  obtain ⟨sup, et, ps, hwrites⟩ := (s.writeCwp (s.nextWindow s.seenCwp)).writeMode_writes s.seenPs
  rw [State.returnFromTrap_eq, hwrites]
  simp [WritesOnly, State.leaveHandler]

theorem Outcome.writesOnly (h : Outcome i s t) : WritesOnly i s t := by
  cases h with
  | trapped x hu => exact hu.toKept.writesOnly.trap x
  | completed ht => exact ht.toKept.writesOnly
  | wrotePsr v hi =>
    exact ⟨fun h => absurd ((writesIcc_of_isWrpsr hi).symm.trans h) nofun, fun _ => rfl, fun _ => rfl, fun _ => rfl,
      fun h => absurd (hi.symm.trans h) nofun, fun _ => rfl, fun _ => rfl⟩
  | wroteWim v hi =>
    exact ⟨fun _ => rfl, fun _ => rfl, fun h => absurd (hi.symm.trans h) nofun, fun _ => rfl, fun _ => ⟨rfl, rfl, rfl⟩,
      fun _ => rfl, fun _ => rfl⟩
  | wroteTbr v hi =>
    exact ⟨fun _ => rfl, fun _ => rfl, fun _ => rfl, fun h => absurd (hi.symm.trans h) nofun, fun _ => ⟨rfl, rfl, rfl⟩,
      fun _ => rfl, fun _ => rfl⟩
  | returned target => exact returnFromTrap_writesOnly s target

end Sys2Proof.Machine

namespace Sys2Proof

open Machine

/-- Settles O60: the forms of a step but those that need supervisor mode or a reset. -/
theorem userModeConfined : Obligations.UserModeConfined :=
  fun _ _ hp hs hr h => (stepped_of_step h).confined hp hs hr

/-- Settles O3: every form of a step keeps `Inv`. -/
theorem stepKeepsInvariant : Obligations.StepKeepsInvariant :=
  fun _ _ hi h => (stepped_of_step h).inv hi

/-- Settles O10: only a trap condition enters error_mode. -/
theorem errorMode : Obligations.ErrorMode :=
  ⟨fun s he hr => by simp [step, he, hr], fun _ _ hp he h ht => (stepped_of_step h).errorMode hp he ht⟩

/-- Settles O59: every form of a next state of an instruction. -/
theorem onlyWriters : Obligations.OnlyWriters :=
  fun i s _ h => (Always.of_next (exec_outcome i s) h).writesOnly

end Sys2Proof
end

section
/-! The decoder and the encoder: decoding an encoded instruction, one law for each constructor. -/

namespace Sys2Proof.Machine

open Sys2Proof.Laws Sys2Proof.Laws.RoundTrip in
/-- The laws of the constructors are the cases of one induction. -/
theorem roundTrip (i : Instr) : Laws.RoundTrip.Statement i :=
  i.rec (motive := Laws.RoundTrip.Statement)
    nop unimp sethi ba bn bne be bg ble bge bl bgu bleu bcc bcs bpos bneg bvc bvs fba fbn fbu fbg fbug fbl fbul fblg
    fbne fbe fbue fbge fbuge fble fbule fbo cba cbn cb3 cb2 cb23 cb1 cb13 cb12 cb123 cb0 cb03 cb02 cb023 cb01 cb013
    cb012 call ldsb ldsh ldub lduh ld ldd ldsba ldsha lduba lduha lda ldda ldf lddf ldfsr ldc lddc ldcsr stb sth st std
    stba stha sta stda stf stdf stfsr stdfq stc stdc stcsr stdcq ldstub ldstuba swap swapa and andcc andn andncc or
    orcc orn orncc xor xorcc xnor xnorcc sll srl sra add addcc addx addxcc taddcc taddcctv sub subcc subx subxcc tsubcc
    tsubcctv mulscc umul smul umulcc smulcc udiv sdiv udivcc sdivcc save restore jmpl rett ta tn tne te tg tle tge tl
    tgu tleu tcc tcs tpos tneg tvc tvs stbar rdy rdasr rdpsr rdwim rdtbr wry wrasr wrpsr wrwim wrtbr flush fitos fitod
    fitoq fstoi fdtoi fqtoi fstod fstoq fdtos fdtoq fqtos fqtod fmovs fnegs fabss fsqrts fsqrtd fsqrtq fadds faddd
    faddq fsubs fsubd fsubq fmuls fmuld fmulq fsmuld fdmulq fdivs fdivd fdivq fcmps fcmpd fcmpq fcmpes fcmped fcmpeq
    cpop1 cpop2

end Sys2Proof.Machine

namespace Sys2Proof

open Machine

/-- Settles O4, by the law of each constructor. -/
theorem decodeEncode : Obligations.DecodeEncode := roundTrip

end Sys2Proof
end

section
/-! What the decoder answers is well-formed: table by table, the tables of the words that 30 R116 gives to other rows apart. -/

namespace Sys2Proof.Machine

variable {i : Instr}

theorem decodeBicc_wellFormed (cond : BitVec 4) (a : Bool) (disp22 : BitVec 22) :
    (decodeBicc cond a disp22).WellFormed := by
  unfold decodeBicc
  split <;> rfl

theorem decodeFbfcc_wellFormed (cond : BitVec 4) (a : Bool) (disp22 : BitVec 22) :
    (decodeFbfcc cond a disp22).WellFormed := by
  unfold decodeFbfcc
  split <;> rfl

theorem decodeCbccc_wellFormed (cond : BitVec 4) (a : Bool) (disp22 : BitVec 22) :
    (decodeCbccc cond a disp22).WellFormed := by
  unfold decodeCbccc
  split <;> rfl

theorem decodeTicc_wellFormed (cond : BitVec 4) (rs1 : RegNum) (o : TrapOperand) : (decodeTicc cond rs1 o).WellFormed := by
  unfold decodeTicc
  split <;> rfl

/-- The word of NOP is no SETHI (30 R111, R116). -/
theorem decodeFormat2_wellFormed {high : BitVec 5} {op2 : BitVec 3} {imm22 : BitVec 22}
    (h : decodeFormat2 high op2 imm22 = .instr i) : i.WellFormed := by
  unfold decodeFormat2 at h
  split at h
  · cases h; rfl
  · cases h; exact decodeBicc_wellFormed _ _ _
  · split at h
    · cases h; rfl
    next hnop => cases h; exact (Bool.not_eq_true' _).mpr (Bool.eq_false_iff.mpr hnop)
  · cases h; exact decodeFbfcc_wellFormed _ _ _
  · cases h; exact decodeCbccc_wellFormed _ _ _
  · cases h

/-- The words of RDY and STBAR are no RDASR (30 R112, R116). -/
theorem decodeReadState_wellFormed (rd rs1 : RegNum) (low : BitVec 14) : (decodeReadState rd rs1 low).WellFormed := by
  unfold decodeReadState
  split
  · rfl
  next hrdy =>
    split
    · rfl
    next hstbar =>
      show (rs1 != 0 && !(rs1 == 15 && rd == 0 && !low.getLsbD 13)) = true
      rw [Bool.and_eq_true, Bool.not_eq_true', bne, Bool.not_eq_true']
      exact ⟨Bool.eq_false_iff.mpr hrdy, Bool.eq_false_iff.mpr hstbar⟩

/-- The words of WRY are no WRASR (30 R112, R116). -/
theorem decodeWriteState_wellFormed (rd rs1 : RegNum) (low : BitVec 14) : (decodeWriteState rd rs1 low).WellFormed := by
  unfold decodeWriteState
  split
  · rfl
  next hwry => exact (Bool.not_eq_true' _).mpr (Bool.eq_false_iff.mpr hwry)

theorem decodeFpop1_wellFormed {rd rs1 rs2 : RegNum} {opf : BitVec 9} (h : decodeFpop1 rd rs1 opf rs2 = .instr i) :
    i.WellFormed := by
  unfold decodeFpop1 at h
  split at h <;> cases h <;> rfl

theorem decodeFpop2_wellFormed {rs1 rs2 : RegNum} {opf : BitVec 9} (h : decodeFpop2 rs1 opf rs2 = .instr i) :
    i.WellFormed := by
  unfold decodeFpop2 at h
  split at h <;> cases h <;> rfl

theorem decodeMemory_wellFormed {rd rs1 : RegNum} {op3 : BitVec 6} {low : BitVec 14}
    (h : decodeMemory rd op3 rs1 low = .instr i) : i.WellFormed := by
  unfold decodeMemory at h
  split at h <;> cases h <;> rfl

/-- The rows that a table of its own reads on, and the others. -/
theorem decodeOperate_wellFormed {rd rs1 : RegNum} {op3 : BitVec 6} {low : BitVec 14}
    (h : decodeOperate rd op3 rs1 low = .instr i) : i.WellFormed := by
  unfold decodeOperate at h
  split at h
  case h_37 => cases h; exact decodeReadState_wellFormed _ _ _
  case h_41 => cases h; exact decodeWriteState_wellFormed _ _ _
  case h_45 => exact decodeFpop1_wellFormed h
  case h_46 => exact decodeFpop2_wellFormed h
  case h_51 => cases h; exact decodeTicc_wellFormed _ _ _
  all_goals cases h <;> rfl

end Sys2Proof.Machine

namespace Sys2Proof

open Machine

/-- Settles O5, by the four tables of the field op. -/
theorem decodedIsWellFormed : Obligations.DecodedIsWellFormed := by
  intro w i h
  unfold decode at h
  split at h
  · exact decodeFormat2_wellFormed h
  · cases h; rfl
  · exact decodeOperate_wellFormed h
  · exact decodeMemory_wellFormed h

end Sys2Proof
end

section
/-! The reset state, the reset of a step, words the spec writes out, and the canonical form of memory. -/

namespace Sys2Proof.Machine

theorem takeReset_frame (s : State) :
    Frame [.counters, .supervisor, .et, .annul, .errorMode, .inputs, .fetchSpace, .clock] s s.takeReset := by
  intro p hp
  cases p
  case counters | supervisor | et | annul | errorMode | inputs | fetchSpace | clock => simp at hp
  case intRegs => exact State.readRW_congr rfl rfl rfl
  case fRegs => exact State.readF_congr rfl
  all_goals simp [Part.same, State.takeReset]

namespace Memory

/-- The first entry and the order of the others. -/
theorem rising_cons {lo : Option Nat} {a : Nat} {b : Byte} {m : Memory} (h : Memory.rising lo ((a, b) :: m) = true) :
    m.rising (some a) = true :=
  ((Bool.and_eq_true _ _).mp h).2

/-- The keys of two memories that read alike begin alike. -/
theorem first_le_of_find {a c : Nat} {b d : Byte} {m n : Memory} (hn : n.rising (some c) = true)
    (h : Memory.find a ((a, b) :: m) = Memory.find a ((c, d) :: n)) : c ≤ a := by
  by_contra hlt
  rw [find_cons, find_cons, if_pos rfl, if_neg (by omega), find_of_rising hn (by omega)] at h
  cases h

/-- Rising lists are determined by what their keys read as. -/
theorem eq_of_find {lo lo' : Option Nat} {m n : Memory} (hm : m.rising lo = true) (hn : n.rising lo' = true)
    (h : ∀ k, m.find k = n.find k) : m = n := by
  induction m generalizing n lo lo' with
  | nil =>
    cases n with
    | nil => rfl
    | cons e n =>
      obtain ⟨c, d⟩ := e
      simpa [find_cons] using h c
  | cons e m ih =>
    obtain ⟨a, b⟩ := e
    cases n with
    | nil => simpa [find_cons] using h a
    | cons e n =>
      obtain ⟨c, d⟩ := e
      have hrest := rising_cons hm
      have hrest' := rising_cons hn
      obtain rfl : a = c := Nat.le_antisymm (first_le_of_find hrest (h c).symm) (first_le_of_find hrest' (h a))
      obtain rfl : b = d := by simpa [find_cons] using h a
      have hfind : ∀ k, Memory.find k m = Memory.find k n := by
        intro k
        by_cases hk : a = k
        · rw [find_of_rising hrest hk.ge, find_of_rising hrest' hk.ge]
        · simpa [find_cons, hk] using h k
      rw [ih hrest hrest' hfind]

end Memory

end Sys2Proof.Machine

namespace Sys2Proof

open Machine

/-- Settles O1, by the values of the fields. -/
theorem resetState : Obligations.ResetState :=
  ⟨rfl, rfl, rfl, rfl, rfl, rfl, rfl, rfl, fun _ => rfl, by decide, by decide, fun _ => rfl⟩

/-- Settles O2, by the values of the fields. -/
theorem resetInvariant : Obligations.ResetInvariant where
  pcAligned := rfl
  npcAligned := rfl
  cwpLegal := by decide
  wimLegal := by decide
  globalZero := rfl
  memoryCanonical := reset_mem_wf

/-- Settles O6, word by word. -/
theorem decodeWords : Obligations.DecodeWords := by
  unfold Obligations.DecodeWords
  decide

/-- Settles O9: the step is `takeReset`. -/
theorem stepResets : Obligations.StepResets := by
  intro s h
  have hstep : step s = .next s.takeReset := if_pos h
  exact ⟨_, hstep, rfl, rfl, rfl, rfl, rfl, rfl, rfl, rfl, rfl, rfl, rfl, rfl, rfl, rfl, rfl, rfl, takeReset_frame s⟩

/-- Settles O16: canonical memories are rising lists, determined by what their keys read as. -/
theorem canonicalMemory : Obligations.CanonicalMemory := by
  intro m n hm hn h
  rw [Memory.wf_iff_rising] at hm hn
  exact Memory.eq_of_find hm hn fun k => by simpa only [Memory.read1_eq_find] using h k

end Sys2Proof
end

section
/-! Taking a trap: the asynchronous traps of a step, trap entry with no write window open, and inside one. -/

namespace Sys2Proof.Machine

variable {s : State}

/-! ### Asynchronous traps (60 R476, R480, R484, R486) -/

/-- No old PIL admits an interrupt outside a WRPSR window (70 R526). -/
theorem oldPilAdmits_of_noPending (h : s.pending = []) : s.oldPilAdmits = false := by
  simp [State.oldPilAdmits, h]

theorem interruptTaken_iff (h : s.pending = []) :
    s.interruptTaken = true ↔ s.psr.et = true ∧ s.irl ≠ 0 ∧ (s.irl = 15 ∨ s.psr.pil < s.irl) := by
  simp [State.interruptTaken, oldPilAdmits_of_noPending h, and_assoc]

theorem interrupt_tt (level : BitVec 4) : (Trap.interrupt level).tt = 0x10 + level.setWidth 8 := by
  revert level
  decide

theorem interrupt_tt_toNat (level : BitVec 4) : (Trap.interrupt level).tt.toNat = 16 + level.toNat := by
  revert level
  decide

theorem discardAnnulled_eq (s : State) : s.discardAnnulled = pastAnnulled s := rfl

@[simp] theorem pastAnnulled_pending (s : State) : (pastAnnulled s).pending = s.pending := by
  unfold pastAnnulled
  split <;> rfl

@[simp] theorem pastAnnulled_seenEt (s : State) : (pastAnnulled s).seenEt = s.seenEt := by
  unfold pastAnnulled
  split <;> rfl

theorem step_of_interrupt (hr : s.resetReq = false) (he : s.errorMode = false) (hse : s.storeError = false)
    (ht : s.interruptTaken = true) : step s = .next ((pastAnnulled s).trapEntry (Trap.interrupt s.irl).tt) := by
  simp only [step, hr, he, hse, ht, Bool.false_eq_true, if_false, if_true]
  rfl

/-- The report is consumed before the trap (60 R476; log 15). -/
theorem step_of_storeError (hr : s.resetReq = false) (he : s.errorMode = false) (hse : s.storeError = true) :
    step s = .next ({ pastAnnulled s with storeError := false }.trap .dataStoreError) := by
  have hdiscard : { s with storeError := false }.discardAnnulled = { pastAnnulled s with storeError := false } := by
    unfold State.discardAnnulled pastAnnulled
    dsimp only
    split <;> rfl
  rw [step, if_neg (by simp [hr]), if_neg (by simp [he]), if_pos hse, State.takeStoreError]
  exact congrArg (fun u : State => Host.Outcome.next (u.trap .dataStoreError)) hdiscard

/-! ### Trap entry inside a write window (70 R525, 48 R392; log 7) -/

theorem mem_olds {r : StateReg} {w : Word} (h : w ∈ s.olds r) :
    ∃ p ∈ s.pending, p.reg = r ∧ p.mayUseOld r = true ∧ p.old = w := by
  obtain ⟨p, hp, hw⟩ := List.mem_map.mp h
  obtain ⟨hmem, hold⟩ := List.mem_filter.mp hp
  exact ⟨p, hmem, eq_of_beq ((Bool.and_eq_true _ _).mp hold).1, hold, hw⟩

/-- S and CWP are settled by the first trap in the window. -/
theorem mem_olds_psr {w : Word} (h : w ∈ s.olds .psr) :
    ∃ p ∈ s.pending, p.reg = .psr ∧ p.handled = false ∧ p.old = w := by
  obtain ⟨p, hp, hr, hold, hw⟩ := mem_olds h
  exact ⟨p, hp, hr, by simpa [PendingWrite.mayUseOld, hr] using hold, hw⟩

theorem trapS_cases (s : State) :
    s.trapS = s.psr.s ∨ ∃ p ∈ s.pending, p.reg = .psr ∧ p.handled = false ∧ s.trapS = p.old.getLsbD 7 := by
  refine (s.pick_mem .trapS s.psr.s _).imp_right fun h => ?_
  obtain ⟨w, hw, hs⟩ := List.mem_map.mp h
  obtain ⟨p, hp, hr, hh, rfl⟩ := mem_olds_psr hw
  exact ⟨p, hp, hr, hh, hs.symm⟩

theorem trapCwp_cases (s : State) :
    s.trapCwp = s.psr.cwp ∨ ∃ p ∈ s.pending, p.reg = .psr ∧ p.handled = false ∧ s.trapCwp = p.old.extractLsb' 0 5 := by
  refine (s.pick_mem .trapWindow s.psr.cwp _).imp_right fun h => ?_
  obtain ⟨w, hw, hs⟩ := List.mem_map.mp h
  obtain ⟨p, hp, hr, hh, rfl⟩ := mem_olds_psr hw
  exact ⟨p, hp, hr, hh, hs.symm⟩

theorem trapTba_cases (s : State) :
    s.trapTba = s.tbr.tba ∨ ∃ p ∈ s.pending, p.reg = .tbr ∧ s.trapTba = p.old.extractLsb' 12 20 := by
  refine (s.pick_mem .trapTba s.tbr.tba _).imp_right fun h => ?_
  obtain ⟨w, hw, hs⟩ := List.mem_map.mp h
  obtain ⟨p, hp, hr, -, rfl⟩ := mem_olds hw
  exact ⟨p, hp, hr, hs.symm⟩

theorem inWindow_trapEntry (s : State) (tt : BitVec 8) (r : StateReg) : (s.trapEntry tt).inWindow r = s.inWindow r := by
  show (s.pending.map PendingWrite.throughTrap).any _ = _
  rw [List.any_map]
  rfl

/-- What stays open of a register, from what stays open of each window. -/
theorem openMask_trapEntry_and (s : State) (tt : BitVec 8) {r : StateReg} {keep : Word}
    (hkeep : ∀ p : PendingWrite, p.reg = r → p.throughTrap.changed = p.changed &&& keep) :
    (s.trapEntry tt).openMask r = s.openMask r &&& keep := by
  have hfold (ps : List PendingWrite) (m : Word) :
      (ps.map PendingWrite.throughTrap).foldl (fun m p => if p.reg = r then m ||| p.changed else m) (m &&& keep) =
        ps.foldl (fun m p => if p.reg = r then m ||| p.changed else m) m &&& keep := by
    induction ps generalizing m with
    | nil => rfl
    | cons p ps ih =>
      have hreg : p.throughTrap.reg = p.reg := rfl
      rw [List.map_cons, List.foldl_cons, List.foldl_cons, hreg]
      by_cases hr : p.reg = r
      · rw [if_pos hr, if_pos hr, hkeep p hr, ← BitVec.and_or_distrib_right, ih]
      · rw [if_neg hr, if_neg hr, ih]
  have hzero : (0 : Word) &&& keep = 0 := BitVec.zero_and
  have hopen := hfold s.pending 0
  rw [hzero] at hopen
  exact hopen

/-- A trap closes the windows of no other register than the PSR. -/
theorem openMask_trapEntry (s : State) (tt : BitVec 8) {r : StateReg} (hr : r ≠ .psr) :
    (s.trapEntry tt).openMask r = s.openMask r :=
  (openMask_trapEntry_and s tt fun p hp =>
    (if_neg (hp ▸ hr)).trans (BitVec.and_allOnes (x := p.changed)).symm).trans BitVec.and_allOnes

theorem openMask_psr_trapEntry (s : State) (tt : BitVec 8) :
    (s.trapEntry tt).openMask .psr = s.openMask .psr &&& ~~~(sMask ||| psMask ||| etMask ||| cwpMask) :=
  openMask_trapEntry_and s tt fun _ hp => if_pos hp

/-- The fields a trap writes are open no more; the others stay as they were. -/
theorem psrOpen_trapEntry (s : State) (tt : BitVec 8) {field : Word} (hf : field ∈ psrFields) :
    (s.trapEntry tt).psrOpen field = (s.psrOpen field && decide (field ∉ [sMask, psMask, etMask, cwpMask])) := by
  have hfields : ∀ f ∈ psrFields, ~~~(sMask ||| psMask ||| etMask ||| cwpMask) &&& f =
      if f ∈ [sMask, psMask, etMask, cwpMask] then 0 else f := by
    simp [psrFields, sMask, psMask, etMask, cwpMask, iccMask, ecMask, efMask, pilMask]
  rw [State.psrOpen, openMask_psr_trapEntry, BitVec.and_assoc, hfields field hf, State.psrOpen]
  by_cases hwritten : field ∈ [sMask, psMask, etMask, cwpMask]
  · rw [if_pos hwritten, decide_eq_false (not_not_intro hwritten), Bool.and_false]
    simp
  · rw [if_neg hwritten, decide_eq_true hwritten, Bool.and_true]

end Sys2Proof.Machine

namespace Sys2Proof

open Machine

/-- Settles O11: the test of an interrupt, and the trap entry of the state past an annulled instruction. -/
theorem asynchronousTraps : Obligations.AsynchronousTraps := by
  refine ⟨fun s hp => interruptTaken_iff hp, fun s hr he hse hp ht => ?_, fun s hr he hse => ⟨fun het hp => ?_, fun het => ?_⟩⟩
  · rw [step_of_interrupt hr he hse ht, ← interrupt_tt]
    exact ⟨_, rfl, State.trapEntry_entered ((pastAnnulled_pending s).trans hp) _⟩
  · obtain ⟨-, -, -, -, -, -, hseen, -⟩ := State.seen_of_noPending hp
    have henabled : { pastAnnulled s with storeError := false }.seenEt = true :=
      (pastAnnulled_seenEt s).trans (hseen.trans het)
    rw [step_of_storeError hr he hse, State.trap_of_et henabled]
    exact ⟨_, rfl, State.trapEntry_entered (s := { pastAnnulled s with storeError := false })
      ((pastAnnulled_pending s).trans hp) _⟩
  · have hdisabled : { pastAnnulled s with storeError := false }.seenEt = false := (pastAnnulled_seenEt s).trans het
    rw [step_of_storeError hr he hse, State.trap_of_not_et hdisabled]
    exact ⟨_, rfl, State.errorHalt_halted _ _⟩

/-- Settles O13: trap entry, `error_halt`, and the table of the codes. -/
theorem trapTaken : Obligations.TrapTaken := by
  refine ⟨fun s x het hp => ?_, fun s x het => ?_, by decide, trapInstruction_tt_toNat, interrupt_tt_toNat⟩
  · obtain ⟨-, -, -, -, -, -, hseen, -⟩ := State.seen_of_noPending hp
    rw [State.trap_of_et (hseen.trans het)]
    exact State.trapEntry_entered hp _
  · rw [State.trap_of_not_et het]
    exact s.errorHalt_halted x

/-- Settles O14: each free choice of trap entry is the new or an old value, and the handler's reads are settled. -/
theorem trapInWriteWindow : Obligations.TrapInWriteWindow := by
  intro s x het
  rw [State.trap_of_et het]
  obtain ⟨hnoEt, hps, hsup, -, htt, htba, hpc, hnpc, -⟩ := s.trapEntry_spec x.tt
  have hsettled := State.settled_of_handlers fun p hp => (s.trapEntry_handled x.tt p hp).2
  obtain ⟨-, -, -, -, -, -, -, -, hpsr, hwim, hseenTba, hy, hasr⟩ := State.seen_of_noPending hsettled
  exact ⟨s.trapS, s.trapCwp, s.trapTba, trapS_cases s, trapCwp_cases s, trapTba_cases s, hps, hsup, hnoEt, hpc,
    hnpc.trans (congrArg (· + 4) hpc.symm), s.readRW_trapEntry x.tt, htba, htt, hpsr, hwim, hseenTba, hy, hasr,
    inWindow_trapEntry s x.tt, fun _ => openMask_trapEntry s x.tt, fun _ => psrOpen_trapEntry s x.tt⟩

end Sys2Proof
end

section
/-! Read and write state register instructions: the words of the PSR, the frames of the writes, and a read three instructions
after a write. -/

namespace Sys2Proof.Machine

variable {s t u : State} {rd rs1 : RegNum}

/-! ### The PSR as a word (10_state R30) -/

theorem psr_toWord (c : Config) (p : Psr) : PsrWord c p (p.toWord c) := by
  constructor
  case impl | ver | reserved | pil | cwp =>
    apply BitVec.eq_of_getLsbD_eq
    intro i hi
    simp only [Psr.toWord, BitVec.getLsbD_extractLsb', BitVec.getLsbD_append]
    interval_cases i <;> simp
  all_goals
    simp only [Psr.toWord, BitVec.getLsbD_append]
    simp

theorem psr_ofWord (w : Word) : PsrFrom w (Psr.ofWord w) := ⟨⟨rfl, rfl, rfl, rfl⟩, rfl, rfl, rfl, rfl, rfl, rfl, rfl⟩

/-! ### Reads (48 R381 to R385) -/

theorem readPrivileged_complete (hs : s.seenS = true) (v : Word) (rd : RegNum) :
    readPrivileged v rd s = .next (s.writeR rd v).advance := by
  simp [readPrivileged, hs]

theorem exec_rdpsr (hs : s.seenS = true) (rd : RegNum) :
    exec (.rdpsr rd) s = .next (s.writeR rd (Psr.toWord s.cfg { s.settled.seenPsr with s := true })).advance :=
  (readPrivileged_complete hs _ rd).trans (by rw [hs])

theorem exec_rdwim (hs : s.seenS = true) (rd : RegNum) :
    exec (.rdwim rd) s = .next (s.writeR rd s.settled.seenWim).advance :=
  readPrivileged_complete hs _ rd

theorem exec_rdtbr (hs : s.seenS = true) (rd : RegNum) :
    exec (.rdtbr rd) s = .next (s.writeR rd (s.settled.seenTba ++ s.tbr.tt ++ 0#4)).advance :=
  readPrivileged_complete hs _ rd

/-! ### Writes (48 R386 to R390) -/

theorem exec_wrwim (hs : s.seenS = true) (rs1 : RegNum) (o : Operand2) :
    exec (.wrwim rs1 o) s = .next (s.writeWim (s.writeValue rs1 o)) := by
  simp [exec, execWrwim, hs]

theorem exec_wrtbr (hs : s.seenS = true) (rs1 : RegNum) (o : Operand2) :
    exec (.wrtbr rs1 o) s = .next (s.writeTbr (s.writeValue rs1 o)) := by
  simp [exec, execWrtbr, hs]

theorem low_five_toNat (v : Word) : (v.extractLsb' 0 5).toNat = v.toNat % 32 := by
  simp [BitVec.extractLsb'_toNat]

theorem exec_wrpsr (hs : s.seenS = true) (rs1 : RegNum) (o : Operand2) :
    exec (.wrpsr rs1 o) s = if (s.writeValue rs1 o).toNat % 32 < s.nWindows then .next (s.writePsr (s.writeValue rs1 o))
      else s.raise .illegalInstruction := by
  simp only [exec, execWrpsr, hs, low_five_toNat, Bool.not_true, Bool.false_eq_true, if_false, ← Nat.not_lt, ite_not]

theorem State.writeYReg_frame (s : State) (v : Word) : Frame [.counters, .y, .clock] s (s.writeYReg v) := by
  intro p hp
  cases p
  case counters | y | clock => simp at hp
  case intRegs => exact State.readRW_congr rfl rfl rfl
  case fRegs => exact State.readF_congr rfl
  all_goals simp [Part.same, State.writeYReg]

theorem State.writeWim_frame (s : State) (v : Word) : Frame [.counters, .wim, .clock] s (s.writeWim v) := by
  intro p hp
  cases p
  case counters | wim | clock => simp at hp
  case intRegs => exact State.readRW_congr rfl rfl rfl
  case fRegs => exact State.readF_congr rfl
  all_goals simp [Part.same, State.writeWim]

theorem State.writeTbr_frame (s : State) (v : Word) : Frame [.counters, .tba, .clock] s (s.writeTbr v) := by
  intro p hp
  cases p
  case counters | tba | clock => simp at hp
  case intRegs => exact State.readRW_congr rfl rfl rfl
  case fRegs => exact State.readF_congr rfl
  all_goals simp [Part.same, State.writeTbr]

theorem State.writePsr_frame (s : State) (v : Word) :
    Frame [.counters, .icc, .enables, .supervisor, .previous, .et, .cwp, .clock] s (s.writePsr v) := by
  intro p hp
  cases p
  case counters | icc | enables | supervisor | previous | et | cwp | clock => simp at hp
  case intRegs => exact State.readRW_congr rfl rfl rfl
  case fRegs => exact State.readF_congr rfl
  all_goals simp [Part.same, State.writePsr]

/-- WIM keeps the bits of the implemented windows (48 R389). -/
theorem writeWim_getLsbD (s : State) (v : Word) (w : Nat) :
    (s.writeWim v).wim.getLsbD w = (v.getLsbD w && decide (w < s.nWindows)) := by
  show (v &&& s.windowMask).getLsbD w = _
  rw [BitVec.getLsbD_and, State.windowMask, BitVec.getLsbD_ofNat, Nat.testBit_two_pow_sub_one]
  by_cases hw : w < 32
  · rw [decide_eq_true hw, Bool.true_and]
  · rw [BitVec.getLsbD_of_ge v w (by omega), Bool.false_and, Bool.false_and]

/-! ### A write, three NOPs, a read (48 R392) -/

theorem execAll_nops_between {i j : Instr} (hi : exec i s = .next u) (hj : exec j u.advance.advance.advance = .next t) :
    execAll [i, .nop, .nop, .nop, j] s = .next t := by
  have hnop (v : State) : exec .nop v = .next v.advance := rfl
  simp only [execAll, hi, hnop, hj]

/-- The window of a write is over after three more instructions. -/
theorem pending_after_three {p : PendingWrite} (hu : u.pending = [p]) (hp : p.left = 3) :
    u.advance.advance.advance.pending = [] := by
  simp [State.advance, State.retire, hu, PendingWrite.age, hp]

/-- A write state register instruction opens its window alone, where none was open. -/
theorem openWindow_pending (hs : s.pending = []) (hu : u.pending = s.pending) (r : StateReg) (changed old : Word) :
    (u.advance.openWindow r changed old).pending = [{ reg := r, left := 3, changed := changed, old := old }] := by
  simp [State.openWindow, State.advance, State.retire, hu, hs]

theorem writeYReg_settles (h : s.pending = []) (v : Word) : (s.writeYReg v).advance.advance.advance.pending = [] :=
  pending_after_three (openWindow_pending h (u := { s with y := v }) rfl _ _ _) rfl

theorem writeWim_settles (h : s.pending = []) (v : Word) : (s.writeWim v).advance.advance.advance.pending = [] :=
  pending_after_three (openWindow_pending h (u := { s with wim := v &&& s.windowMask }) rfl _ _ _) rfl

theorem writeTbr_settles (h : s.pending = []) (v : Word) : (s.writeTbr v).advance.advance.advance.pending = [] :=
  pending_after_three
    (openWindow_pending h (u := { s with tbr := { s.tbr with tba := v.extractLsb' 12 20 } }) rfl _ _ _) rfl

theorem writePsr_settles (h : s.pending = []) (v : Word) : (s.writePsr v).advance.advance.advance.pending = [] :=
  pending_after_three (openWindow_pending h (u := { s with psr := Psr.ofWord v }) rfl _ _ _) rfl

theorem settled_noPending (h : s.pending = []) : s.settled.pending = [] := by
  simp [State.settled, h]

/-- A read with no window open puts the register's value in r[rd] of the window of the CWP. -/
theorem readBack (h : u.pending = []) (hg : u.g = s.g) (hwin : u.win = s.win) (hcfg : u.cfg = s.cfg) (rd : RegNum)
    (v : Word) : RegWritten s (u.writeR rd v).advance u.psr.cwp rd v := by
  obtain ⟨-, -, -, -, -, -, -, hcwp, -⟩ := State.seen_of_noPending h
  obtain ⟨hwritten, -⟩ := u.writeR_advance_complete rd v
  intro w m
  rw [hwritten w m, hcwp, State.readRW_congr hcfg hg hwin]
  simp only [sameReg, State.cell, State.nWindows, hcfg]
  rfl

/-! ### Ancillary registers (48 R382, R391; logs 11 and 12) -/

theorem State.writeAsr_frame (s : State) (n : RegNum) (v : Word) : Frame [.counters, .asr, .clock] s (s.writeAsr n v) := by
  intro p hp
  cases p
  case counters | asr | clock => simp at hp
  case intRegs => exact State.readRW_congr rfl rfl rfl
  case fRegs => exact State.readF_congr rfl
  all_goals simp [Part.same, State.writeAsr]

theorem asrValue_writeAsr (s : State) (n : RegNum) (v : Word) (m : RegNum) :
    (s.writeAsr n v).asrValue m = if m = n then v else s.asrValue m := by
  show ((s.asr.setIfInBounds n.toNat v)[m.toNat]?).getD 0 = _
  rw [Vector.getElem?_setIfInBounds]
  have hn : n.toNat < 32 := n.isLt
  by_cases hm : m = n
  · simp [hm, hn]
  · have hne : n.toNat ≠ m.toNat := fun h => hm (BitVec.eq_of_toNat_eq h.symm)
    simp [hm, hne, State.asrValue]

theorem exec_rdasr_reserved (h : rs1.toNat < 16) (rd : RegNum) (low : BitVec 14) (s : State) :
    exec (.rdasr rd ⟨rs1, low⟩) s = .next (s.writeR rd (s.drawWord .rdasr)).advance :=
  if_neg fun himpl => absurd ((asrImplementation_iff rs1).mp himpl) (by omega)

theorem exec_wrasr_reserved (h : rd.toNat < 16) (rs1 : RegNum) (o : AsrOperand) (s : State) :
    exec (.wrasr rd rs1 o) s = .next (s.writeAsr rd (s.drawWord .wrasr)) :=
  if_neg fun himpl => absurd ((asrImplementation_iff rd).mp himpl) (by omega)

theorem exec_rdasr (h : 16 ≤ rs1.toNat) (rd : RegNum) (low : BitVec 14) (s : State) :
    exec (.rdasr rd ⟨rs1, low⟩) s = asrAccess rs1
      (fun t => .next (t.writeR rd (Config.asrRead rs1 (t.settled.seenAsr rs1) rd low)).advance) s :=
  if_pos ((asrImplementation_iff rs1).mpr h)

theorem exec_wrasr (h : 16 ≤ rd.toNat) (rs1 : RegNum) (o : AsrOperand) (s : State) :
    exec (.wrasr rd rs1 o) s = asrAccess rd
      (fun t => .next (t.writeAsr rd (Config.asrWrite rd (t.readR rs1) (t.asrOp2val o) (rs1 ++ o.bits)))) s :=
  if_pos ((asrImplementation_iff rd).mpr h)

theorem asrAccess_none {n : RegNum} (h : s.cfg.asrs.find? (fun a => a.num == n) = none) (k : State → Out) :
    asrAccess n k s = .next (s.trap .illegalInstruction) := by
  rw [asrAccess, State.asrSpec, h]
  rfl

theorem asrAccess_some {n : RegNum} {a : AsrSpec} (h : s.cfg.asrs.find? (fun a => a.num == n) = some a) (k : State → Out) :
    asrAccess n k s = if a.privileged = true ∧ s.seenS = false then .next (s.trap .privilegedInstruction) else k s := by
  rw [asrAccess, State.asrSpec, h]
  simp only [Bool.and_eq_true, Bool.not_eq_true']
  rfl

end Sys2Proof.Machine

namespace Sys2Proof

open Machine

/-- Settles O34: RDY writes the Y it finds. -/
theorem rdyReads : Obligations.RdyReads := fun s rd => ⟨_, rfl, s.writeR_advance_complete rd _⟩

/-- Settles O35: in supervisor mode each of the three writes the register it finds. -/
theorem stateRegistersRead : Obligations.StateRegistersRead := fun s rd hs =>
  ⟨⟨_, _, exec_rdpsr hs rd, psr_toWord _ _, s.writeR_advance_complete rd _⟩,
    ⟨_, exec_rdwim hs rd, s.writeR_advance_complete rd _⟩, ⟨_, exec_rdtbr hs rd, s.writeR_advance_complete rd _⟩⟩

/-- Settles O36, by the frames of the four writes. -/
theorem stateRegistersWritten : Obligations.StateRegistersWritten := by
  intro s rs1 o v
  refine ⟨⟨_, rfl, rfl, ⟨rfl, rfl⟩, s.writeYReg_frame v⟩, fun hs => ⟨?_, ?_, ?_⟩⟩
  · exact ⟨_, exec_wrwim hs rs1 o, writeWim_getLsbD s v, ⟨rfl, rfl⟩, s.writeWim_frame v⟩
  · exact ⟨_, exec_wrtbr hs rs1 o, rfl, ⟨rfl, rfl⟩, s.writeTbr_frame v⟩
  · rw [exec_wrpsr hs]
    split
    next hlegal => exact ⟨_, if_pos hlegal, psr_ofWord v, ⟨rfl, rfl⟩, s.writePsr_frame v⟩
    next hillegal => exact if_neg hillegal

/-- Settles O37: after three instructions the window is over, and the read finds the register as it is. -/
theorem writtenIsReadLater : Obligations.WrittenIsReadLater := by
  intro s rs1 rd o hp v
  obtain ⟨-, -, -, -, hsup, -⟩ := State.seen_of_noPending hp
  refine ⟨?_, fun hs => ⟨?_, ?_, fun hcwp hstays => ?_⟩⟩
  · have hover := writeYReg_settles hp v
    obtain ⟨-, -, -, -, -, -, -, -, -, -, -, hy, -⟩ := State.seen_of_noPending (settled_noPending hover)
    have hread := readBack (s := s) hover rfl rfl rfl rd v
    exact ⟨_, execAll_nops_between (u := s.writeYReg v) rfl (by rw [exec, execRdy, hy]; rfl), hread⟩
  · have hover := writeWim_settles hp v
    obtain ⟨-, -, -, -, hseenS, -⟩ := State.seen_of_noPending hover
    obtain ⟨-, -, -, -, -, -, -, -, -, hwim, -⟩ := State.seen_of_noPending (settled_noPending hover)
    have hread := readBack (s := s) hover rfl rfl rfl rd (v &&& BitVec.ofNat 32 (2 ^ s.nWindows - 1))
    exact ⟨_, execAll_nops_between (exec_wrwim (hsup.trans hs) rs1 o)
      ((exec_rdwim (hseenS.trans hs) rd).trans (by rw [hwim]; rfl)), hread⟩
  · have hover := writeTbr_settles hp v
    obtain ⟨-, -, -, -, hseenS, -⟩ := State.seen_of_noPending hover
    obtain ⟨-, -, -, -, -, -, -, -, -, -, htba, -⟩ := State.seen_of_noPending (settled_noPending hover)
    have hread := readBack (s := s) hover rfl rfl rfl rd (v.extractLsb' 12 20 ++ s.tbr.tt ++ 0#4)
    exact ⟨_, execAll_nops_between (exec_wrtbr (hsup.trans hs) rs1 o)
      ((exec_rdtbr (hseenS.trans hs) rd).trans (by rw [htba]; rfl)), hread⟩
  · have hover := writePsr_settles hp v
    obtain ⟨-, -, -, -, hseenS, -⟩ := State.seen_of_noPending hover
    obtain ⟨-, -, -, -, -, -, -, -, hpsr, -⟩ := State.seen_of_noPending (settled_noPending hover)
    have hread := readBack (s := s) hover rfl rfl rfl rd (Psr.toWord s.cfg { Psr.ofWord v with s := true })
    have hwritten : { Psr.ofWord v with s := true } = Psr.ofWord v := by rw [← hstays]; rfl
    refine ⟨_, _, execAll_nops_between ((exec_wrpsr (hsup.trans hs) rs1 o).trans (if_pos hcwp))
      ((exec_rdpsr (hseenS.trans hstays) rd).trans (by rw [hpsr]; rfl)), ?_, ?_, hread⟩
    · rw [State.advance_psr, State.writeR_psr]
      exact psr_ofWord v
    · rw [hwritten, State.advance_psr, State.writeR_psr]
      exact psr_toWord s.cfg (Psr.ofWord v)

/-- Settles O38, by the ranges of the numbers and by what ASR_IMPL says. -/
theorem ancillaryRegisters : Obligations.AncillaryRegisters := by
  intro s rd rs1 low o
  refine ⟨fun h => ⟨_, _, exec_rdasr_reserved h rd low s, s.writeR_advance_complete rd _⟩, fun h => ?_, fun h => ?_, fun h => ?_⟩
  · exact ⟨_, exec_wrasr_reserved h rs1 o s, fun n hn => by rw [asrValue_writeAsr, if_neg hn], ⟨rfl, rfl⟩,
      s.writeAsr_frame rd _⟩
  · rw [exec_rdasr h]
    split
    next hspec => exact asrAccess_none hspec _
    next a hspec =>
      rw [asrAccess_some hspec]
      split
      · rfl
      · exact ⟨_, rfl, s.writeR_advance_complete rd _⟩
  · rw [exec_wrasr h]
    split
    next hspec => exact asrAccess_none hspec _
    next a hspec =>
      rw [asrAccess_some hspec]
      split
      · rfl
      · exact ⟨_, rfl, by rw [asrValue_writeAsr, if_pos rfl], fun n hn => by rw [asrValue_writeAsr, if_neg hn],
          ⟨rfl, rfl⟩, s.writeAsr_frame rd _⟩

end Sys2Proof
end

section
/-! Units and privilege: the branches and operations of an FPU and a coprocessor, the traps that a unit presents, and the
privilege check of every privileged instruction. -/

namespace Sys2Proof.Machine

variable {s : State} {i : Instr} {rd rs1 : RegNum} {o : Operand2} {n : Nat}

/-! ### FBfcc and CBccc (46 R301 to R336) -/

theorem fpReady_of_quiet (h : FpQuiet s) : s.deferredTrap = none ∧ s.qne = false := by
  unfold State.deferredTrap State.qne
  cases hpresent : s.cfg.fqPresent
  · exact ⟨rfl, rfl⟩
  · obtain ⟨hpending, hempty⟩ := h hpresent
    simp [hpending, hempty]

/-- An enabled and quiet FPU branches: freely right after an FPop2 (70 R527). -/
theorem fbfcc_quiet {k : State → State} {a : Bool} {disp22 : BitVec 22} (he : s.fpEnabled = true) (hq : FpQuiet s) :
    fbfcc k a disp22 s = .next (if s.afterFpop2 then s.branchAny a disp22 else k s) := by
  obtain ⟨hdeferred, hqueue⟩ := fpReady_of_quiet hq
  simp [fbfcc, he, hdeferred, hqueue]

theorem State.branchAny_branched (h : s.annul = false) (a : Bool) (disp22 : BitVec 22) :
    ∃ d, Branched s (s.branchAny a disp22) d a disp22 := by
  unfold State.branchAny
  split
  · exact ⟨.always, s.branchAlways_branched a disp22⟩
  · exact ⟨.test _, State.branchIf_branched h _ a disp22⟩

/-- Each row branches on its decision of fcc. -/
theorem exec_of_mem_fccBranches {e : (Bool → BitVec 22 → Instr) × (BitVec 2 → Decision)} (he : e ∈ fccBranches) (a : Bool)
    (disp22 : BitVec 22) (s : State) :
    ∃ k, exec (e.1 a disp22) s = fbfcc k a disp22 s ∧ k s = s.branch (e.2 s.seenFcc) a disp22 := by
  simp only [fccBranches, List.mem_cons, List.not_mem_nil, or_false] at he
  obtain rfl | rfl | rfl | rfl | rfl | rfl | rfl | rfl | rfl | rfl | rfl | rfl | rfl | rfl | rfl | rfl := he
  iterate 2 · exact ⟨_, rfl, rfl⟩
  all_goals
    refine ⟨_, rfl, ?_⟩
    show s.branchIf (ccIn _ s.seenFcc) a disp22 = _
    generalize s.seenFcc = c
    refine congrArg (fun test => s.branchIf test a disp22) ?_
    revert c
    decide

/-- Each row branches on its decision of bp_CP_cc. -/
theorem exec_of_mem_cccBranches {e : (Bool → BitVec 22 → Instr) × (BitVec 2 → Decision)} (he : e ∈ cccBranches) (a : Bool)
    (disp22 : BitVec 22) (s : State) :
    ∃ k, exec (e.1 a disp22) s = cbccc k s ∧ k s = s.branch (e.2 s.cp.cc) a disp22 := by
  simp only [cccBranches, List.mem_cons, List.not_mem_nil, or_false] at he
  obtain rfl | rfl | rfl | rfl | rfl | rfl | rfl | rfl | rfl | rfl | rfl | rfl | rfl | rfl | rfl | rfl := he
  iterate 2 · exact ⟨_, rfl, rfl⟩
  all_goals
    refine ⟨_, rfl, ?_⟩
    show s.branchIf (ccIn _ s.cp.cc) a disp22 = _
    generalize s.cp.cc = c
    refine congrArg (fun test => s.branchIf test a disp22) ?_
    revert c
    decide

/-! ### What an exception state presents (60 R476, R478, R479) -/

section
variable (he : s.cpEnabled = true) (hx : s.cpExc = true)
include he hx

theorem cpop_signaled (k : State → Cp) : cpop k s = s.raiseCp := by simp [cpop, he, hx]

theorem cbccc_signaled (k : State → State) : cbccc k s = s.raiseCp := by simp [cbccc, he, hx]

theorem cpAccess_signaled {privileged : Bool} (hp : privileged = true → s.seenS = true)
    (ha : (s.effectiveAddress rs1 o).toNat % n = 0) (k : Asi → Word → State → Out) :
    cpAccess privileged n rs1 o k s = s.raiseCp := by
  have hallowed : (privileged && !s.seenS) = false := by simpa using hp
  simp [cpAccess, hallowed, he, (aligned_iff n _).mpr ha, hx]

theorem exec_cpBranchOrOp (hi : IsCpBranchOrOp i) : exec i s = s.raiseCp := by
  obtain ⟨rd, rs1, opc, rs2, rfl | rfl⟩ | ⟨e, hmem, a, disp22, rfl⟩ := hi
  · rw [exec]; exact cpop_signaled he hx _
  · rw [exec]; exact cpop_signaled he hx _
  · obtain ⟨k, hexec, -⟩ := exec_of_mem_cccBranches hmem a disp22 s
    exact hexec.trans (cbccc_signaled he hx k)

end

/-- A coprocessor without a queue reports the want of it (41 R188; log 20). -/
theorem exec_stdcq_noQueue (hs : s.seenS = true) (he : s.cpEnabled = true) (hqueue : s.cfg.cqPresent = false)
    (hreports : s.cfg.stdcqNoQueue = .cpException) (ha : (s.effectiveAddress rs1 o).toNat % 8 = 0) (rd : RegNum) :
    exec (.stdcq rd rs1 o) s = s.raiseCp := by
  rw [exec, execStdcq_of_legal (.inr (.inr hreports))]
  cases hx : s.cpExc
  · rw [cpAccess_complete (fun _ => hs) he ha hx]
    simp [storeCq, hqueue]
  · exact cpAccess_signaled he hx (fun _ => hs) ha _

theorem exec_stdcq_illegal (hs : s.seenS = true) (hcp : s.cfg.cpPresent = true) (hqueue : s.cfg.cqPresent = false)
    (hillegal : s.cfg.stdcqNoQueue = .illegalInstruction) (rd rs1 : RegNum) (o : Operand2) :
    exec (.stdcq rd rs1 o) s = .next (s.trap .illegalInstruction) := by
  simp [exec, execStdcq, stdcqIllegal, hs, hcp, hqueue, hillegal, State.raise]

section
variable (he : s.fpEnabled = true)
include he

/-- FPops and FBfcc begin with the same two checks of the exception state (46 R301, 49 R410). -/
theorem exec_fpBranchOrOp_deferred {k : BitVec 3} (hi : IsFpBranchOrOp i) (hk : s.deferredTrap = some k) :
    exec i s = s.takeDeferred k := by
  obtain hfpop | ⟨e, hmem, a, disp22, rfl⟩ := hi
  · obtain ⟨regs, c, hexec⟩ := exec_of_fpop hfpop s
    simp [hexec, fpopChecks, fpopReady, he, hk]
  · obtain ⟨c, hexec, -⟩ := exec_of_mem_fccBranches hmem a disp22 s
    simp [hexec, fbfcc, he, hk]

theorem exec_fpBranchOrOp_queued (hi : IsFpBranchOrOp i) (hk : s.deferredTrap = none) (hq : s.qne = true) :
    exec i s = s.raiseFp 4 := by
  obtain hfpop | ⟨e, hmem, a, disp22, rfl⟩ := hi
  · obtain ⟨regs, c, hexec⟩ := exec_of_fpop hfpop s
    simp [hexec, fpopChecks, fpopReady, he, hk, hq]
  · obtain ⟨c, hexec, -⟩ := exec_of_mem_fccBranches hmem a disp22 s
    simp [hexec, fbfcc, he, hk, hq]

/-- The sequence_error line of an access comes before its register check. -/
theorem fpAccess_sequenced {double : Bool} (hx : s.fpInException = true)
    (ha : (s.effectiveAddress rs1 o).toNat % n = 0) (k : Asi → Word → State → Out) :
    fpAccess false true double n rd rs1 o k s = s.raiseFp 4 := by
  simp [fpAccess, he, (aligned_iff n _).mpr ha, hx]

theorem exec_of_mem_fpSequenced {e : Make3 × Nat × Bool} (hmem : e ∈ fpSequenced)
    (hstores : e.2.2 = true → s.cfg.fpStoresSequenced = true) (hx : s.fpInException = true)
    (ha : (s.effectiveAddress rs1 o).toNat % e.2.1 = 0) : exec (e.1 rd rs1 o) s = s.raiseFp 4 := by
  simp only [fpSequenced, List.mem_cons, List.not_mem_nil, or_false] at hmem
  obtain rfl | rfl | rfl | rfl | rfl | rfl := hmem
  iterate 3 · exact fpAccess_sequenced he hx ha _
  · rw [exec, execStf, hstores rfl]; exact fpAccess_sequenced he hx ha _
  · rw [exec, execStdf, hstores rfl]; exact fpAccess_sequenced he hx ha _
  · rw [exec, execStfsr, hstores rfl]; exact fpAccess_sequenced he hx ha _

end

theorem fpInException_of_not_quiet (hpresent : s.cfg.fqPresent = true) (h : ¬ FpQuiet s) : s.fpInException = true := by
  by_contra hx
  refine h fun _ => ?_
  simpa [State.fpInException, hpresent] using hx

/-! ### Privileged instructions in user mode (60 R491) -/

section
variable (hs : s.seenS = false)
include hs

theorem alternate_denied (double : Bool) (rd rs1 : RegNum) (a : AltOperand) (k : Asi → Word → State → Out) :
    alternate double rd rs1 a k s = s.raise .privilegedInstruction := by simp [alternate, hs]

theorem fpAccess_denied (sequenced double : Bool) (n : Nat) (rd rs1 : RegNum) (o : Operand2)
    (k : Asi → Word → State → Out) : fpAccess true sequenced double n rd rs1 o k s = s.raise .privilegedInstruction := by
  simp [fpAccess, hs]

theorem cpAccess_denied (n : Nat) (rs1 : RegNum) (o : Operand2) (k : Asi → Word → State → Out) :
    cpAccess true n rs1 o k s = s.raise .privilegedInstruction := by simp [cpAccess, hs]

theorem readPrivileged_denied (v : Word) (rd : RegNum) : readPrivileged v rd s = s.raise .privilegedInstruction := by
  simp [readPrivileged, hs]

/-- With traps disabled the trap condition of a RETT is error_mode (47 R353). -/
theorem rettChecks_denied (target : Word) : rettChecks target s = s.raise .privilegedInstruction := by
  cases het : s.seenEt
  · simp [rettChecks, hs, het, State.raise, State.trap_of_not_et het]
  · simp [rettChecks, hs, het]

theorem exec_denied (hi : i.privileged = true) : exec i s = s.raise .privilegedInstruction := by
  cases i
  case ldsba | ldsha | lduba | lduha | lda | ldda | stba | stha | sta | stda | ldstuba | swapa =>
    exact alternate_denied hs _ _ _ _ _
  case stdfq => exact fpAccess_denied hs _ _ _ _ _ _ _
  case stdcq rd rs1 o =>
    have hlegality : execStdcq rd rs1 o s = cpAccess true 8 rs1 o storeCq s := by simp [execStdcq, hs]
    exact hlegality.trans (cpAccess_denied hs _ _ _ _)
  case rett => exact rettChecks_denied hs _
  case rdpsr | rdwim | rdtbr => exact readPrivileged_denied hs _ _
  case wrpsr => simp [exec, execWrpsr, hs]
  case wrwim => simp [exec, execWrwim, hs]
  case wrtbr => simp [exec, execWrtbr, hs]
  all_goals cases hi

end

end Sys2Proof.Machine

namespace Sys2Proof

open Machine

/-- Settles O30: each row is the branch of its decision, FBfcc on the fcc it sees. -/
theorem unitBranches : Obligations.UnitBranches := by
  refine ⟨fun e he s a disp22 hexecuted hef hfpu hq => ?_, fun e he s a disp22 hexecuted hec hcp hx => ?_⟩
  · obtain ⟨k, hexec, hk⟩ := exec_of_mem_fccBranches he a disp22 s
    refine ⟨_, hexec.trans (fbfcc_quiet (State.fpEnabled_of_present hef hfpu) hq), ?_⟩
    split
    · exact State.branchAny_branched hexecuted a disp22
    · rw [hk]
      split
      next hclosed =>
        have hseen : s.seenFcc = s.fsr.fcc := if_pos hclosed
        exact hseen ▸ State.branch_branched hexecuted _ a disp22
      next => exact ⟨_, State.branch_branched hexecuted _ a disp22⟩
  · obtain ⟨k, hexec, hk⟩ := exec_of_mem_cccBranches he a disp22 s
    refine ⟨_, hexec.trans (cbccc_complete (State.cpEnabled_of_present hec hcp) hx), ?_⟩
    rw [hk]
    exact State.branch_branched hexecuted _ a disp22

/-- Settles O52: past its checks a CPop gives the coprocessor its new state. -/
theorem cpOperations : Obligations.CpOperations := by
  intro s rd rs1 rs2 opc hec hcp hx
  have he := State.cpEnabled_of_present hec hcp
  have hends (c : Cp) : Advanced s { s with cp := c }.advance ∧
      Frame [.counters, .coprocessor, .clock] s { s with cp := c }.advance :=
    ⟨(s.cp_frame c).advanced (by decide), (s.cp_frame c).trans (State.advance_frame _) (by decide) (by decide)⟩
  constructor
  · rw [exec]
    exact ⟨_, cpop_complete he hx, rfl, rfl, hends _⟩
  · rw [exec]
    exact ⟨_, cpop_complete he hx, rfl, hends _⟩

/-- Settles O53: each shared operation of a unit checks for its exception state before anything else it does. -/
theorem pendingUnitTraps : Obligations.PendingUnitTraps := by
  refine ⟨fun s het hp hec hcp hx => ?_, fun s rd rs1 o het hp hs hec hcp hqueue hreports ha => ?_,
    fun s rd rs1 o hs hcp hqueue hillegal => exec_stdcq_illegal hs hcp hqueue hillegal rd rs1 o,
    fun s het hp hef hfpu hpresent => ?_⟩
  all_goals obtain ⟨-, -, -, -, -, -, hseen, -⟩ := State.seen_of_noPending hp
  · have he := State.cpEnabled_of_present hec hcp
    refine ⟨fun i hi => ?_, fun e hmem rd rs1 o hpriv ha => ?_⟩
    · rw [exec_cpBranchOrOp he hx hi]
      exact State.raiseCp_entered (hseen.trans het) hp
    · obtain ⟨k, hexec⟩ := exec_of_mem_cpAccesses hmem rd rs1 o fun h => (hpriv h).2
      rw [hexec, cpAccess_signaled he hx (fun h => (hpriv h).1) ha]
      exact State.raiseCp_entered (hseen.trans het) hp
  · rw [exec_stdcq_noQueue hs (State.cpEnabled_of_present hec hcp) hqueue hreports ha]
    exact State.raiseCp_entered (hseen.trans het) hp
  · have he := State.fpEnabled_of_present hef hfpu
    have hdeferred : s.deferredTrap = s.fpPending := if_pos hpresent
    refine ⟨fun i hi => ⟨fun k hk => ?_, fun hnone hfq => ?_⟩, fun e hmem rd rs1 o hstores hbusy ha => ?_⟩
    · rw [exec_fpBranchOrOp_deferred he hi (hdeferred.trans hk)]
      exact State.takeDeferred_entered (hseen.trans het) hp k
    · rw [exec_fpBranchOrOp_queued he hi (hdeferred.trans hnone) (by simp [State.qne, hpresent, hfq])]
      exact State.raiseFp_entered (hseen.trans het) hp 4
    · rw [exec_of_mem_fpSequenced he hmem hstores (fpInException_of_not_quiet hpresent hbusy) ha]
      exact State.raiseFp_entered (hseen.trans het) hp 4

/-- Settles O56: the privilege check is the first of every privileged instruction. -/
theorem privilegedInUserMode : Obligations.PrivilegedInUserMode := fun _ _ hi hs => exec_denied hs hi

end Sys2Proof
end

section
/-! Floating-point and coprocessor loads and stores that complete: what each moves, and what the rest of the unit is afterwards. -/

namespace Sys2Proof.Machine

variable {s : State} {rd rs1 : RegNum} {o : Operand2} {k v : Nat}

/-! ### The FSR as a word (10_state R41) -/

theorem fsr_toWord (c : Config) (qne : Bool) (r : Fsr) : FsrWord c qne r (r.toWord c qne) := by
  constructor
  case rd | tem | reserved | ver | ftt | fcc | aexc | cexc =>
    apply BitVec.eq_of_getLsbD_eq
    intro i hi
    simp only [Fsr.toWord, BitVec.getLsbD_extractLsb', BitVec.getLsbD_append]
    interval_cases i <;> simp
  case unused =>
    refine ⟨?_, ?_⟩
    · apply BitVec.eq_of_getLsbD_eq
      intro i hi
      simp only [Fsr.toWord, BitVec.getLsbD_extractLsb', BitVec.getLsbD_append]
      interval_cases i <;> simp
    · simp only [Fsr.toWord, BitVec.getLsbD_append]
      simp
  all_goals
    simp only [Fsr.toWord, BitVec.getLsbD_append]
    simp

theorem qne_iff (s : State) : s.qne = true ↔ s.cfg.fqPresent = true ∧ s.fq ≠ [] := by
  simp [State.qne]

theorem zeroFtt_fsr (s : State) : s.zeroFtt.fsr = if s.cfg.stfsrZeroesFtt then { s.fsr with ftt := 0 } else s.fsr := by
  unfold State.zeroFtt
  split <;> rfl

theorem zeroFtt_mem (s : State) : s.zeroFtt.mem = s.mem := by
  unfold State.zeroFtt
  split <;> rfl

theorem fsr_frame (s : State) (r : Fsr) : Frame [.fsr] s { s with fsr := r } := by
  intro p hp
  cases p
  case fsr => simp at hp
  case intRegs => exact State.readRW_congr rfl rfl rfl
  case fRegs => exact State.readF_congr rfl
  all_goals simp [Part.same]

theorem zeroFtt_frame (s : State) : Frame [.fsr] s s.zeroFtt := by
  unfold State.zeroFtt
  split
  · exact fsr_frame s _
  · exact Frame.refl s

/-- The window of an LDFSR is not a part a frame speaks of apart from the others that count instructions. -/
theorem openLdfsrWindow_frame (s : State) : Frame [.clock] s s.openLdfsrWindow := by
  intro p hp
  cases p
  case clock => simp at hp
  case intRegs => exact State.readRW_congr rfl rfl rfl
  case fRegs => exact State.readF_congr rfl
  all_goals simp [Part.same, State.openLdfsrWindow]

/-! ### Floating-point loads (40 R154 to R156) -/

section
variable (he : s.fpEnabled = true) (hq : FpQuiet s)
include he hq

theorem ldf_completes (ha : (s.effectiveAddress rs1 o).toNat % 4 = 0)
    (hl : s.locate .read s.dataAsi (s.effectiveAddress rs1 o) 4 s.seenS = .found k) (hb : BytesAt s.mem k 4 v) :
    ∃ t, exec (.ldf rd rs1 o) s = .next t ∧ FWritten s t rd (BitVec.ofNat 32 v) ∧ Advanced s t ∧
      Frame [.counters, .fRegs, .clock] s t := by
  refine ⟨(s.writeF rd (BitVec.ofNat 32 v)).advance, ?_, fun m => s.readF_writeF rd _ m, (s.writeF_frame rd _).advanced (by decide),
    (s.writeF_frame rd _).trans (State.advance_frame _) (by decide) (by decide)⟩
  rw [exec, execLdf, fpAccess_quiet (double := false) he hq nofun ha, loadAt_complete ha hl (Memory.read4_of_bytesAt hb)]

theorem ldfsr_completes (ha : (s.effectiveAddress rs1 o).toNat % 4 = 0)
    (hl : s.locate .read s.dataAsi (s.effectiveAddress rs1 o) 4 s.seenS = .found k) (hb : BytesAt s.mem k 4 v) :
    ∃ t, exec (.ldfsr rd rs1 o) s = .next t ∧ FsrFrom s.fsr (BitVec.ofNat 32 v) t.fsr ∧ t.ldfsrLeft = 3 ∧ Advanced s t ∧
      Frame [.counters, .fsr, .clock] s t := by
  have hframe := s.loadFsr_frame (BitVec.ofNat 32 v)
  refine ⟨(s.loadFsr (BitVec.ofNat 32 v)).advance.openLdfsrWindow, ?_, s.fsr.load_from _, rfl,
    hframe.advanced (by decide), ?_⟩
  · rw [exec, execLdfsr, fpAccess_quiet (double := false) he hq nofun ha, loadFsrAt,
      readAt_complete hl (Memory.read4_of_bytesAt hb)]
  · exact (hframe.trans (State.advance_frame _) (es := [.counters, .fsr, .clock]) (by decide) (by decide)).trans
      (openLdfsrWindow_frame _) (List.Subset.refl _) (by decide)

theorem lddf_completes (ha : (s.effectiveAddress rs1 o).toNat % 8 = 0)
    (heven : s.cfg.fregAlignTraps = true → rd.toNat % 2 = 0)
    (hl : s.locate .read s.dataAsi (s.effectiveAddress rs1 o) 8 s.seenS = .found k) (hb : BytesAt s.mem k 8 v) :
    ∃ t, exec (.lddf rd rs1 o) s = .next t ∧ FpWritten s t .double rd v ∧ Advanced s t ∧
      Frame [.counters, .fRegs, .clock] s t := by
  refine ⟨(s.writeFd rd (BitVec.ofNat 64 v)).advance, ?_, s.readF_writeFp .double rd v,
    (s.writeFd_frame rd _).advanced (by decide),
    (s.writeFd_frame rd _).trans (State.advance_frame _) (by decide) (by decide)⟩
  rw [exec, execLddf, fpAccess_quiet he hq (fun _ => heven) ha, loadAt_complete ha hl (Memory.read8_of_bytesAt hb)]

end

/-! ### Floating-point stores (41 R180 to R182) -/

/-- A store of an enabled FPU is made where the FPU is quiet or does not sequence its stores (log 17). -/
theorem fpStore_passes {double : Bool} {n : Nat} {c : Asi → Word → State → Out} (he : s.fpEnabled = true)
    (hq : FpQuiet s ∨ s.cfg.fpStoresSequenced = false)
    (heven : double = true → s.cfg.fregAlignTraps = true → rd.toNat % 2 = 0)
    (ha : (s.effectiveAddress rs1 o).toNat % n = 0) :
    fpAccess false s.cfg.fpStoresSequenced double n rd rs1 o c s = c s.dataAsi (s.effectiveAddress rs1 o) s := by
  obtain hquiet | hfree := hq
  · exact fpAccess_quiet he hquiet heven ha
  · refine fpAccess_complete nofun he ha (fun h => absurd (hfree.symm.trans h) nofun) fun hdouble htraps => ?_
    simpa using mt (getLsbD_zero_iff rd).mp (by have := heven hdouble htraps; omega)

theorem store4_frame (s : State) (k : Nat) (w : Word) : Frame [.memory, .clock] s (s.store4 k w) := s.noteStore_frame k _

theorem store8_frame (s : State) (k : Nat) (d : Dword) : Frame [.memory, .clock] s (s.store8 k d) := s.noteStore_frame k _

theorem readFd_toNat (s : State) (rd : RegNum) :
    (s.readFd rd).toNat = (s.readF (evenReg rd)).toNat * 2 ^ 32 + (s.readF (oddReg rd)).toNat := by
  have hodd := (s.readF (oddReg rd)).isLt
  rw [State.readFd, BitVec.toNat_append, Nat.shiftLeft_eq, Nat.mul_comm, Nat.two_pow_add_eq_or_of_lt hodd, Nat.mul_comm]

section
variable (he : s.fpEnabled = true) (hq : FpQuiet s ∨ s.cfg.fpStoresSequenced = false)
include he hq

theorem stf_completes (ha : (s.effectiveAddress rs1 o).toNat % 4 = 0)
    (hl : s.locate .write s.dataAsi (s.effectiveAddress rs1 o) 4 s.seenS = .found k) :
    ∃ t, exec (.stf rd rs1 o) s = .next t ∧ Stored s t k 4 (s.readF rd).toNat ∧ Advanced s t ∧
      Frame [.counters, .memory, .clock] s t := by
  have hframe := store4_frame s k (s.readF rd)
  refine ⟨(s.store4 k (s.readF rd)).advance, ?_, s.store4_stored k _, hframe.advanced (by decide),
    hframe.trans (State.advance_frame _) (by decide) (by decide)⟩
  rw [exec, execStf, fpStore_passes (double := false) he hq nofun ha, storeF, storeAt_complete ha hl]

theorem stfsr_completes (ha : (s.effectiveAddress rs1 o).toNat % 4 = 0)
    (hl : s.locate .write s.dataAsi (s.effectiveAddress rs1 o) 4 s.seenS = .found k) :
    ∃ t w, exec (.stfsr rd rs1 o) s = .next t ∧ FsrWord s.cfg s.qne s.fsr w ∧ Stored s t k 4 w.toNat ∧
      (w.getLsbD 13 = true ↔ s.cfg.fqPresent = true ∧ s.fq ≠ []) ∧
      t.fsr = (if s.cfg.stfsrZeroesFtt then { s.fsr with ftt := 0 } else s.fsr) ∧ Advanced s t ∧
      Frame [.counters, .memory, .fsr, .clock] s t := by
  have hword := fsr_toWord s.cfg s.qne s.fsr
  have hframe : Frame [.memory, .fsr, .clock] s (s.store4 k s.fsrWord).zeroFtt :=
    (store4_frame s k s.fsrWord).trans (zeroFtt_frame _) (by decide) (by decide)
  refine ⟨(s.store4 k s.fsrWord).zeroFtt.advance, s.fsrWord, ?_, hword, ?_, ?_, ?_, hframe.advanced (by decide),
    hframe.trans (State.advance_frame _) (by decide) (by decide)⟩
  · rw [exec, execStfsr, fpStore_passes (double := false) he hq nofun ha, storeFsr, storeAt_complete ha hl]
  · simpa [Stored, zeroFtt_mem] using s.store4_stored k s.fsrWord
  · rw [show s.fsrWord.getLsbD 13 = s.qne from hword.qne, qne_iff]
  · rw [State.advance_fsr, zeroFtt_fsr, State.store4_cfg, State.store4_fsr]

theorem stdf_completes (ha : (s.effectiveAddress rs1 o).toNat % 8 = 0)
    (heven : s.cfg.fregAlignTraps = true → rd.toNat % 2 = 0)
    (hl : s.locate .write s.dataAsi (s.effectiveAddress rs1 o) 8 s.seenS = .found k) :
    ∃ t, exec (.stdf rd rs1 o) s = .next t ∧
      Stored s t k 8 ((s.readF (evenReg rd)).toNat * 2 ^ 32 + (s.readF (oddReg rd)).toNat) ∧ Advanced s t ∧
      Frame [.counters, .memory, .clock] s t := by
  have hframe := store8_frame s k (s.readFd rd)
  refine ⟨(s.store8 k (s.readFd rd)).advance, ?_, ?_, hframe.advanced (by decide),
    hframe.trans (State.advance_frame _) (by decide) (by decide)⟩
  · rw [exec, execStdf, fpStore_passes he hq (fun _ => heven) ha, storeFd, storeAt_complete ha hl]
  · rw [← readFd_toNat]
    exact s.store8_stored k _

end

/-! ### Coprocessor loads (40 R158 to R160) -/

/-- What an update of the coprocessor alone and `advance` leave. -/
theorem cp_advance_complete (s : State) (c : Cp) : Advanced s { s with cp := c }.advance ∧
    Frame [.counters, .coprocessor, .clock] s { s with cp := c }.advance :=
  ⟨(s.cp_frame c).advanced (by decide), (s.cp_frame c).trans (State.advance_frame _) (by decide) (by decide)⟩

theorem loadCPair_eq (s : State) (rd : RegNum) (v : Dword) : s.loadCPair rd v = { s with cp := (s.loadCPair rd v).cp } := by
  unfold State.loadCPair
  split <;> rfl

theorem popCq_eq (s : State) : s.popCq = { s with cp := s.popCq.cp } := by
  unfold State.popCq
  split <;> rfl

section
variable (he : s.cpEnabled = true) (hx : s.cpExc = false)
include he hx

theorem cpLoad_completes {β : Type} {n : Nat} {read : Memory → Nat → Option β} {write : β → State → State}
    {spoiled : State → State} {value : β} (ha : (s.effectiveAddress rs1 o).toNat % n = 0)
    (hl : s.locate .read s.dataAsi (s.effectiveAddress rs1 o) n s.seenS = .found k) (hr : read s.mem k = some value)
    (hw : write value s = { s with cp := (write value s).cp }) :
    cpAccess false n rs1 o (loadAt n read write spoiled) s = .next { s with cp := (write value s).cp }.advance := by
  rw [cpAccess_complete (privileged := false) nofun he ha hx, loadAt_complete ha hl hr, ← hw]

/-- A store that changes the coprocessor after its write to memory. -/
theorem cpStore_completes {n : Nat} {privileged : Bool} {store : Nat → State → State} {spoiled : Nat → State → State}
    (hp : privileged = true → s.seenS = true) (ha : (s.effectiveAddress rs1 o).toNat % n = 0)
    (hl : s.locate .write s.dataAsi (s.effectiveAddress rs1 o) n s.seenS = .found k)
    (c : Asi → Word → State → Out)
    (hc : c s.dataAsi (s.effectiveAddress rs1 o) s = storeAt n store spoiled s.dataAsi (s.effectiveAddress rs1 o) s) :
    cpAccess privileged n rs1 o c s = .next (store k s).advance := by
  rw [cpAccess_complete hp he ha hx, hc, storeAt_complete ha hl]

end

/-- A store and then an update of the coprocessor leave the bytes, the coprocessor and the frame. -/
theorem stored_cp_complete {t : State} {n w : Nat} (hframe : Frame [.memory, .clock] s t) (hstored : Stored s t k n w)
    (c : Cp) : Stored s { t with cp := c }.advance k n w ∧ Advanced s { t with cp := c }.advance ∧
      Frame [.counters, .memory, .coprocessor, .clock] s { t with cp := c }.advance := by
  have hboth : Frame [.memory, .coprocessor, .clock] s { t with cp := c } :=
    hframe.trans (t.cp_frame c) (by decide) (by decide)
  exact ⟨hstored, hboth.advanced (by decide), hboth.trans (State.advance_frame _) (by decide) (by decide)⟩

theorem store8_popCq_cp (s : State) (k : Nat) (d : Dword) : (s.store8 k d).popCq.cp =
    if s.cfg.stdcqPops then { Config.cpMoved .stdcq s.cp with cq := s.cp.cq.tail } else Config.cpMoved .stdcq s.cp := by
  unfold State.popCq
  rw [State.store8_cfg]
  split <;> simp [State.cpMove]

/-- STDCQ on a coprocessor with a queue stores its front, of an empty one any value (41 R188; log 18). -/
theorem stdcq_completes (he : s.cpEnabled = true) (hx : s.cpExc = false) (hs : s.seenS = true)
    (hqueue : s.cfg.cqPresent = true) (ha : (s.effectiveAddress rs1 o).toNat % 8 = 0)
    (hl : s.locate .write s.dataAsi (s.effectiveAddress rs1 o) 8 s.seenS = .found k) (rd : RegNum) :
    ∃ t, exec (.stdcq rd rs1 o) s = .next t ∧ Stored s t k 8 s.cqFront.toNat ∧
      t.cp = (if s.cfg.stdcqPops then { Config.cpMoved .stdcq s.cp with cq := s.cp.cq.tail }
        else Config.cpMoved .stdcq s.cp) ∧
      Advanced s t ∧ Frame [.counters, .memory, .coprocessor, .clock] s t := by
  obtain ⟨hstored, hends⟩ := stored_cp_complete (store8_frame s k s.cqFront) (s.store8_stored k s.cqFront)
    (s.store8 k s.cqFront).popCq.cp
  refine ⟨_, ?_, hstored, store8_popCq_cp s k _, hends⟩
  rw [exec, execStdcq_of_legal (.inr (.inl hqueue)), ← popCq_eq]
  exact cpStore_completes (store := fun key t => (t.store8 key s.cqFront).popCq) (spoiled := spoilFirstWord) he hx
    (fun _ => hs) ha hl storeCq (by simp [storeCq, hqueue])

end Sys2Proof.Machine

namespace Sys2Proof

open Machine

/-- Settles O45: one lemma for each instruction. -/
theorem fpLoadsStores : Obligations.FpLoadsStores := by
  intro s rd rs1 o k v ea hef hfpu
  have he := State.fpEnabled_of_present hef hfpu
  refine ⟨fun ha => ⟨fun hq hl hb => ?_, fun hq hl => ?_⟩, fun ha heven => ⟨fun hq hl hb => ?_, fun hq hl => ?_⟩⟩
  · exact ⟨ldf_completes he hq ha hl hb, ldfsr_completes he hq ha hl hb⟩
  · exact ⟨stf_completes he hq ha hl, stfsr_completes he hq ha hl⟩
  · exact lddf_completes he hq ha heven hl hb
  · exact stdf_completes he hq ha heven hl

/-- Settles O47: each access completes, and what it does to the coprocessor is one update of it. -/
theorem cpLoadsStores : Obligations.CpLoadsStores := by
  intro s rd rs1 o k v ea hec hcp hx
  have he := State.cpEnabled_of_present hec hcp
  refine ⟨fun ha => ⟨fun hl hb => ⟨?_, ?_⟩, fun hl => ⟨?_, ?_⟩⟩, fun ha => ⟨fun hl hb => ?_, fun hl => ⟨?_, ?_, ?_⟩⟩⟩
  · exact ⟨_, cpLoad_completes he hx ha hl (Memory.read4_of_bytesAt hb) rfl, loadC_cp s rd _, cp_advance_complete s _⟩
  · exact ⟨_, cpLoad_completes he hx ha hl (Memory.read4_of_bytesAt hb) rfl, rfl, cp_advance_complete s _⟩
  · obtain ⟨hstored, hends⟩ := stored_cp_complete (store4_frame s k (s.readC rd)) (s.store4_stored k (s.readC rd))
      (Config.cpMoved (.stc rd) (s.store4 k (s.readC rd)).cp)
    exact ⟨_, cpStore_completes (privileged := false) he hx nofun ha hl (storeC rd) rfl, hstored, by simp, hends⟩
  · obtain ⟨hstored, hends⟩ := stored_cp_complete (store4_frame s k s.cp.csr) (s.store4_stored k s.cp.csr)
      (Config.cpMoved .stcsr (s.store4 k s.cp.csr).cp)
    exact ⟨_, cpStore_completes (privileged := false) he hx nofun ha hl storeCsr rfl, hstored, by simp, hends⟩
  · exact ⟨_, cpLoad_completes he hx ha hl (Memory.read8_of_bytesAt hb) (loadCPair_eq s rd _), loadCPair_cp s rd _,
      cp_advance_complete s _⟩
  · rw [← cPair_eq]
    obtain ⟨hstored, hends⟩ := stored_cp_complete (store8_frame s k (s.cPair rd)) (s.store8_stored k (s.cPair rd))
      (Config.cpMoved (.stdc rd) (s.store8 k (s.cPair rd)).cp)
    exact ⟨_, cpStore_completes (privileged := false) he hx nofun ha hl (storeCPair rd) rfl, hstored, by simp, hends⟩
  · intro d rest hs hqueue hfront
    obtain ⟨t, hexec, hstored, hnext, hends⟩ := stdcq_completes he hx hs hqueue ha hl rd
    rw [hfront, List.tail_cons] at hnext
    exact ⟨t, hexec, by simpa [State.cqFront, hfront] using hstored, hnext, hends⟩
  · intro hs hqueue hempty
    obtain ⟨t, hexec, hstored, hnext, hends⟩ := stdcq_completes he hx hs hqueue ha hl rd
    rw [hempty, List.tail_nil] at hnext
    exact ⟨t, hexec, ⟨_, hstored⟩, hnext, hends⟩

end Sys2Proof
end

section
/-! FPops and compares past their checks: completion with the result and the FSR, an enabled exception, a misaligned register
number (49 R410 to R412). -/

namespace Sys2Proof.Machine

variable {s : State} {rd rs1 rs2 : RegNum} {dst : Prec} {r : FpResult} {exc : BitVec 5}

/-! ### Frames of the updates of an FPop -/

theorem writeFp_frame (s : State) (p : Prec) (n : RegNum) (v : Nat) : Frame [.fRegs] s (s.writeFp p n v) := by
  have hsub : [Part.fRegs] ⊆ [Part.fRegs] := List.Subset.refl _
  cases p with
  | single => exact s.writeF_frame n _
  | double => exact s.writeFd_frame n _
  | quad =>
    exact (((s.writeF_frame _ _).trans (State.writeF_frame _ _ _) hsub hsub).trans (State.writeF_frame _ _ _) hsub
      hsub).trans (State.writeF_frame _ _ _) hsub hsub

theorem fsrWrite_frame (s : State) (f : Fsr) : Frame [.fsr] s { s with fsr := f } := by
  intro p hp
  cases p
  case fsr => simp at hp
  case intRegs => exact State.readRW_congr rfl rfl rfl
  case fRegs => exact State.readF_congr rfl
  all_goals simp [Part.same]

theorem writeFcc_frame (s : State) (rel : BitVec 2) : Frame [.fsr] s (s.writeFcc rel) := fsrWrite_frame s _

theorem markFpop2_frame (s : State) : Frame [.clock] s s.markFpop2 := by
  intro p hp
  cases p
  case clock => simp at hp
  case intRegs => exact State.readRW_congr rfl rfl rfl
  case fRegs => exact State.readF_congr rfl
  all_goals simp [Part.same]

/-- The trap of an FPop on an FPU with a queue (60 R476(a); log 17), before `advance`. -/
theorem deferred_frame (s : State) (f : Fsr) (pending : Option (BitVec 3)) (q : List Dword) :
    Frame [.fsr, .fpQueue] s { s with fsr := f, fpPending := pending, fq := q } := by
  intro p hp
  cases p
  case fsr | fpQueue => simp at hp
  case intRegs => exact State.readRW_congr rfl rfl rfl
  case fRegs => exact State.readF_congr rfl
  all_goals simp [Part.same]

/-! ### Completion (49 R412) -/

/-- With no enabled exception an FPop1 writes its result and the FSR, and nothing else. -/
theorem fpResult_completes (h : r.exc &&& s.fsr.tem = 0) (dst : Prec) (rd : RegNum) :
    ∃ t, fpResult dst rd r s = .next t ∧ FpWritten s t dst rd (s.resolve dst.format r.bits) ∧
      t.fsr = fsrAfter s.fsr r.exc ∧ Advanced s t ∧ Frame [.counters, .fRegs, .fsr, .clock] s t := by
  have hboth : Frame [.fRegs, .fsr] s
      ({ s with fsr := s.fsr.complete r.exc }.writeFp dst rd (s.resolve dst.format r.bits)) :=
    (fsrWrite_frame s _).trans (writeFp_frame _ _ _ _) (by decide) (by decide)
  refine ⟨_, fpComplete_complete h, State.readF_writeFp _ dst rd _, ?_, hboth.advanced (by decide),
    hboth.trans (State.advance_frame _) (by decide) (by decide)⟩
  exact writeFp_frame { s with fsr := s.fsr.complete r.exc } dst rd (s.resolve dst.format r.bits) .fsr (by decide)

theorem fpMove_completes (h : FpReady s []) (f : Word → Word) (rd rs2 : RegNum) :
    ∃ t, fpMove f rd rs2 s = .next t ∧ FWritten s t rd (f (s.readF rs2)) ∧ t.fsr = fsrAfter s.fsr 0 ∧ Advanced s t ∧
      Frame [.counters, .fRegs, .fsr, .clock] s t := by
  have hboth : Frame [.fRegs, .fsr] s ({ s with fsr := s.fsr.complete 0 }.writeF rd (f (s.readF rs2))) :=
    (fsrWrite_frame s _).trans (State.writeF_frame _ _ _) (by decide) (by decide)
  refine ⟨_, (fpopChecks_complete h).trans (fpComplete_complete BitVec.zero_and), fun m => State.readF_writeF _ rd _ m, rfl,
    hboth.advanced (by decide), hboth.trans (State.advance_frame _) (by decide) (by decide)⟩

/-- With no enabled exception a compare writes fcc and the rest of the FSR, and opens the hazard of the next FBfcc. -/
theorem fpCompareInstr_completes {p : Prec} {quiet : Bool} (hready : FpReady s [(p, rs1), (p, rs2)])
    (h : (s.compareResult p quiet rs1 rs2).2 &&& s.fsr.tem = 0) :
    ∃ t, fpCompareInstr p quiet rs1 rs2 s = .next t ∧
      t.fsr = { fsrAfter s.fsr (s.compareResult p quiet rs1 rs2).2 with fcc := (s.compareResult p quiet rs1 rs2).1 } ∧
      t.afterFpop2 = true ∧ Advanced s t ∧ Frame [.counters, .fsr, .clock] s t := by
  have hboth : Frame [.fsr] s ({ s with fsr := s.fsr.complete (s.compareResult p quiet rs1 rs2).2 }.writeFcc
      (s.compareResult p quiet rs1 rs2).1) := (fsrWrite_frame s _).trans (writeFcc_frame _ _) (by decide) (by decide)
  have hended := hboth.trans (State.advance_frame _) (es := [.counters, .fsr, .clock]) (by decide) (by decide)
  exact ⟨_, (fpopChecks_complete hready).trans (fpComplete_complete h), rfl, rfl, hboth.advanced (by decide),
    hended.trans (markFpop2_frame _) (List.Subset.refl _) (by decide)⟩

/-! ### An enabled exception (49 R412; log 17) -/

theorem trappedBits_eq (exc tem : BitVec 5) : trappedBits exc tem = shownExceptions exc tem := by
  have hof (x : BitVec 5) : x &&& excOF ≠ 0 ↔ x.getLsbD 3 = true := by revert x; decide
  have huf (x : BitVec 5) : x &&& excUF ≠ 0 ↔ x.getLsbD 2 = true := by revert x; decide
  unfold trappedBits shownExceptions
  simp only [hof, huf, BitVec.getLsbD_and]
  rfl

/-- Whether an FPop1 or a compare, an operation with an enabled exception leaves its result unwritten. -/
theorem fpComplete_trapped {regs : List (Prec × RegNum)} {write last : State → State} (hready : FpReady s regs)
    (hlast : ∀ u, Frame [.clock] u (last u)) (h : exc &&& s.fsr.tem ≠ 0) :
    IeeeTrapped s (fpComplete exc write last s) exc := by
  unfold IeeeTrapped
  rw [← trappedBits_eq]
  by_cases hqueue : s.cfg.fqPresent = true
  · have hempty : s.fq = [] := by simpa [State.qne, hqueue] using hready.noQueue
    have hdefer := deferred_frame s { s.fsr with cexc := trappedBits exc s.fsr.tem } (some 1)
      (s.fq ++ [(s.draw .fqEntry).setWidth 64])
    have hended := hdefer.trans (State.advance_frame _) (es := [.counters, .fsr, .fpQueue, .clock]) (by decide) (by decide)
    have hl := hlast (s.deferIeee exc)
    obtain ⟨hfq, hpending⟩ := hl .fpQueue (by decide)
    obtain ⟨hpc, hnpc⟩ := hl .counters (by decide)
    rw [if_pos hqueue]
    refine ⟨last (s.deferIeee exc), (s.draw .fqEntry).setWidth 64, ?_, hl .fsr (by decide), hpending, ?_, ⟨hpc, hnpc⟩,
      hended.trans hl (List.Subset.refl _) (by decide)⟩
    · rw [fpComplete, if_neg h, if_pos hqueue]
    · rw [hfq]
      simp [State.deferIeee, hempty]
  · rw [if_neg hqueue]
    intro het hp
    obtain ⟨-, -, -, -, -, -, hseen, -⟩ := State.seen_of_noPending hp
    refine ⟨_, ?_, State.trapEntry_entered (s := { s with fsr := { s.fsr with ftt := 1, cexc := trappedBits exc s.fsr.tem } })
      hp Trap.fpException.tt⟩
    rw [fpComplete, if_neg h, if_neg hqueue, State.raiseIeee, if_pos (hseen.trans het)]

theorem frame_id (u : State) : Frame [.clock] u (id u) := Frame.refl u

/-! ### Misaligned register numbers (49 R411, 40 R155, 41 R181, D18) -/

theorem fpopChecks_misnumbered {regs : List (Prec × RegNum)} (h : Misnumbered s regs) (k : State → Out) :
    ∃ t, fpopChecks regs k s = .next t ∧ TrapEntered { s with fsr := { s.fsr with ftt := 6 } } t 0x08 := by
  obtain ⟨-, -, -, -, -, -, hseen, -⟩ := State.seen_of_noPending h.closed
  have hraise : fpopChecks regs k s = s.raiseFp 6 := by
    simp [fpopChecks, fpopReady, h.ready.enabled, h.ready.noTrap, h.ready.noQueue, h.checked, h.misaligned]
  rw [hraise]
  exact State.raiseFp_entered (hseen.trans h.enabled) h.closed 6

theorem fpAccess_misnumbered {sequenced : Bool} {n : Nat} {o : Operand2} (he : s.fpEnabled = true) (hq : FpQuiet s)
    (ha : (s.effectiveAddress rs1 o).toNat % n = 0) (hchecked : s.cfg.fregAlignTraps = true) (hodd : rd.toNat % 2 = 1)
    (k : Asi → Word → State → Out) : fpAccess false sequenced true n rd rs1 o k s = s.raiseFp 6 := by
  have hbit : rd.getLsbD 0 = true := (getLsbD_zero_iff rd).mpr hodd
  simp only [fpAccess, he, (aligned_iff n _).mpr ha, fpInException_of_quiet hq, hchecked, hbit, Bool.false_and,
    Bool.and_false, Bool.not_true, Bool.false_eq_true, if_false, Bool.and_true, if_true]

/-! ### The rows of the tables (49 R415 to R453) -/

/-- What an FPop1 of one operand ends with past its checks: with NS = 1 its result may be another (log 23). -/
theorem fpUnary_result (src dst : Prec) (op : FpEnv → Nat → FpResult) (rd rs2 : RegNum) (s : State) :
    ∃ result : State → FpResult,
      fpUnary src dst op rd rs2 s = fpopChecks [(src, rs2), (dst, rd)] (fun t => fpResult dst rd (result t) t) s ∧
      (s.fsr.ns = false → result s = op s.fpEnv (s.readFp src rs2)) :=
  ⟨fun t => t.nsResult (src.format.denormal (t.readFp src rs2)) (op t.fpEnv (t.readFp src rs2)), rfl,
    nsResult_standard _ _⟩

/-- An integer is no denormalized number: NS is not looked at. -/
theorem fpConvertInt_result (dst : Prec) (rd rs2 : RegNum) (s : State) :
    ∃ result : State → FpResult,
      fpConvertInt dst rd rs2 s = fpopChecks [(.single, rs2), (dst, rd)] (fun t => fpResult dst rd (result t) t) s ∧
      (s.fsr.ns = false → result s = fpFromInt dst.format s.fpEnv (BitVec.ofNat 32 (s.readFp .single rs2))) := by
  refine ⟨fun t => fpFromInt dst.format t.fpEnv (t.readF rs2), rfl, fun _ => ?_⟩
  rw [State.readFp, BitVec.ofNat_toNat, BitVec.setWidth_eq]

theorem exec_of_mem_fpUnaries {e : (RegNum → RegNum → Instr) × Prec × Prec × (FpEnv → Nat → FpResult)} (he : e ∈ fpUnaries)
    (rd rs2 : RegNum) (s : State) :
    ∃ result : State → FpResult,
      exec (e.1 rd rs2) s = fpopChecks [(e.2.1, rs2), (e.2.2.1, rd)] (fun t => fpResult e.2.2.1 rd (result t) t) s ∧
      (s.fsr.ns = false → result s = e.2.2.2 s.fpEnv (s.readFp e.2.1 rs2)) := by
  simp only [fpUnaries, List.mem_cons, List.not_mem_nil, or_false] at he
  obtain rfl | rfl | rfl | rfl | rfl | rfl | rfl | rfl | rfl | rfl | rfl | rfl | rfl | rfl | rfl := he
  iterate 3 · rw [exec]; exact fpConvertInt_result _ rd rs2 s
  all_goals rw [exec]; exact fpUnary_result _ _ _ rd rs2 s

theorem exec_of_mem_fpBinaries {e : (RegNum → RegNum → RegNum → Instr) × Prec × Prec × (FpEnv → Nat → Nat → FpResult)}
    (he : e ∈ fpBinaries) (rd rs1 rs2 : RegNum) (s : State) :
    exec (e.1 rd rs1 rs2) s = fpBinary e.2.1 e.2.2.1 e.2.2.2 rd rs1 rs2 s := by
  simp only [fpBinaries, List.mem_cons, List.not_mem_nil, or_false] at he
  obtain rfl | rfl | rfl | rfl | rfl | rfl | rfl | rfl | rfl | rfl | rfl | rfl | rfl | rfl := he
  all_goals rfl

/-- The same of an FPop1 of two operands. -/
theorem fpBinary_result (src dst : Prec) (op : FpEnv → Nat → Nat → FpResult) (rd rs1 rs2 : RegNum) (s : State) :
    ∃ result : State → FpResult,
      fpBinary src dst op rd rs1 rs2 s =
        fpopChecks [(src, rs1), (src, rs2), (dst, rd)] (fun t => fpResult dst rd (result t) t) s ∧
      (s.fsr.ns = false → result s = op s.fpEnv (s.readFp src rs1) (s.readFp src rs2)) :=
  ⟨fun t => t.nsResult (src.format.denormal (t.readFp src rs1) || src.format.denormal (t.readFp src rs2))
    (op t.fpEnv (t.readFp src rs1) (t.readFp src rs2)), rfl, nsResult_standard _ _⟩

theorem exec_of_mem_fpCompares {e : (RegNum → RegNum → Instr) × Prec × Bool} (he : e ∈ fpCompares) (rs1 rs2 : RegNum)
    (s : State) : exec (e.1 rs1 rs2) s = fpCompareInstr e.2.1 e.2.2 rs1 rs2 s := by
  simp only [fpCompares, List.mem_cons, List.not_mem_nil, or_false] at he
  obtain rfl | rfl | rfl | rfl | rfl | rfl := he
  all_goals rfl

theorem complement_sign (v : Word) : v ^^^ 0x80000000 = BitVec.ofBool (!v.msb) ++ v.extractLsb' 0 31 := by
  apply BitVec.eq_of_getLsbD_eq
  intro i hi
  rw [BitVec.msb_eq_getLsbD_last]
  simp only [BitVec.getLsbD_xor, BitVec.getLsbD_append, BitVec.getLsbD_extractLsb']
  interval_cases i <;> simp

theorem clear_sign (v : Word) : v &&& 0x7FFFFFFF = 0#1 ++ v.extractLsb' 0 31 := by
  apply BitVec.eq_of_getLsbD_eq
  intro i hi
  simp only [BitVec.getLsbD_and, BitVec.getLsbD_append, BitVec.getLsbD_extractLsb']
  interval_cases i <;> simp

/-- FNEGs and FABSs as the model writes them, masks. -/
theorem exec_of_mem_fpMoves {e : (RegNum → RegNum → Instr) × (Word → Word)} (he : e ∈ fpMoves) (rd rs2 : RegNum)
    (s : State) : ∃ f, exec (e.1 rd rs2) s = fpMove f rd rs2 s ∧ ∀ v, f v = e.2 v := by
  simp only [fpMoves, List.mem_cons, List.not_mem_nil, or_false] at he
  obtain rfl | rfl | rfl := he
  · exact ⟨id, rfl, fun _ => rfl⟩
  · exact ⟨fun v => v ^^^ 0x80000000, rfl, complement_sign⟩
  · exact ⟨fun v => v &&& 0x7FFFFFFF, rfl, clear_sign⟩

end Sys2Proof.Machine

namespace Sys2Proof

open Machine

/-- Settles O49: past its checks each row is `fpResult` of its function or `fpMove` of its word. -/
theorem fpResults : Obligations.FpResults := by
  refine ⟨fun e he s rd rs2 hready => ?_, fun e he s rd rs1 rs2 hready => ?_, fun e he s rd rs2 hready => ?_⟩
  · obtain ⟨result, hexec, hstandard⟩ := exec_of_mem_fpUnaries he rd rs2 s
    rw [hexec, fpopChecks_complete hready]
    refine ⟨fun hns hmasked => ?_, fun hmasked => ?_⟩
    · rw [hstandard hns]
      exact fpResult_completes hmasked _ rd
    · obtain ⟨t, hnext, hends⟩ := fpResult_completes (s := s) (r := result s) (by rw [hmasked]; simp) e.2.2.1 rd
      exact ⟨t, _, _, hnext, hends⟩
  · obtain ⟨result, hexec, hstandard⟩ := fpBinary_result e.2.1 e.2.2.1 e.2.2.2 rd rs1 rs2 s
    rw [exec_of_mem_fpBinaries he, hexec, fpopChecks_complete hready]
    refine ⟨fun hns hmasked => ?_, fun hmasked => ?_⟩
    · rw [hstandard hns]
      exact fpResult_completes hmasked _ rd
    · obtain ⟨t, hnext, hends⟩ := fpResult_completes (s := s) (r := result s) (by rw [hmasked]; simp) e.2.2.1 rd
      exact ⟨t, _, _, hnext, hends⟩
  · obtain ⟨f, hexec, hf⟩ := exec_of_mem_fpMoves he rd rs2 s
    rw [hexec, ← hf]
    exact fpMove_completes hready f rd rs2

/-- Settles O50: past its checks each row is the compare of its precision. -/
theorem fpCompares_hold : Obligations.FpCompares := by
  intro e he s rs1 rs2 hready
  rw [exec_of_mem_fpCompares he]
  refine ⟨fun hns hmasked => ?_, fun hmasked => ?_⟩
  · rw [← compareResult_standard e.2.1 e.2.2 rs1 rs2 hns] at hmasked ⊢
    exact fpCompareInstr_completes hready hmasked
  · obtain ⟨t, hnext, hfsr, -, hends⟩ := fpCompareInstr_completes (quiet := e.2.2) hready (by rw [hmasked]; simp)
    exact ⟨t, _, _, hnext, hfsr, hends⟩

/-- Settles O51: an enabled exception leaves the result unwritten, and a misaligned register number is the last check. -/
theorem fpExceptions : Obligations.FpExceptions := by
  refine ⟨fun e he s rd rs1 rs2 => ?_, fun e he s rd rs2 => ?_, fun e he s rs1 rs2 => ?_, fun mk hmk s rd rs1 o hef hfpu hq ha hchecked hodd het hp => ?_⟩
  · obtain ⟨result, hexec, hstandard⟩ := fpBinary_result e.2.1 e.2.2.1 e.2.2.2 rd rs1 rs2 s
    rw [exec_of_mem_fpBinaries he, hexec]
    refine ⟨fun hready hns hraised => ?_, fun hbad => fpopChecks_misnumbered hbad _⟩
    rw [fpopChecks_complete hready, hstandard hns]
    exact fpComplete_trapped hready frame_id hraised
  · obtain ⟨result, hexec, hstandard⟩ := exec_of_mem_fpUnaries he rd rs2 s
    rw [hexec]
    refine ⟨fun hready hns hraised => ?_, fun hbad => fpopChecks_misnumbered hbad _⟩
    rw [fpopChecks_complete hready, hstandard hns]
    exact fpComplete_trapped hready frame_id hraised
  · rw [exec_of_mem_fpCompares he]
    refine ⟨fun hready hns hraised => ?_, fun hbad => fpopChecks_misnumbered hbad _⟩
    rw [← compareResult_standard e.2.1 e.2.2 rs1 rs2 hns] at hraised ⊢
    rw [fpCompareInstr, fpopChecks_complete hready]
    exact fpComplete_trapped hready markFpop2_frame hraised
  · obtain ⟨-, -, -, -, -, -, hseen, -⟩ := State.seen_of_noPending hp
    have hraise : exec (mk rd rs1 o) s = s.raiseFp 6 := by
      simp only [List.mem_cons, List.not_mem_nil, or_false] at hmk
      obtain rfl | rfl := hmk
      all_goals exact fpAccess_misnumbered (State.fpEnabled_of_present hef hfpu) hq ha hchecked hodd _
    rw [hraise]
    exact State.raiseFp_entered (hseen.trans het) hp 6

end Sys2Proof
end

section
/-! The numbers of a format (10_state R46, 49 R413). A bit pattern without its sign is a natural number, and what it denotes
rises strictly with it: the neighbours of a number are the next patterns. Rounding is a choice between two neighbours. -/

namespace Sys2Proof.Machine

variable {f : Format} {n k c : ℕ} {sign : Bool}

/-! ### Patterns and magnitudes -/

/-- What a pattern without its sign denotes, were there no infinity and no NaN. -/
noncomputable def Format.magnitude (f : Format) (n : ℕ) : ℝ :=
  if n / 2 ^ f.fbits = 0 then ((n % 2 ^ f.fbits : ℕ) : ℝ) * 2 ^ f.minQuantum
  else ((2 ^ f.fbits + n % 2 ^ f.fbits : ℕ) : ℝ) * 2 ^ (f.minQuantum + ((n / 2 ^ f.fbits : ℕ) : ℤ) - 1)

/-- A pattern as the place `k` of its last digit and its digits `c`: carries included, the pattern of `c * 2 ^ k` places is
their sum. -/
theorem magnitude_scaled (hc : c ≤ 2 ^ (f.fbits + 1)) (hk : k = 0 ∨ 2 ^ f.fbits ≤ c) :
    f.magnitude (k * 2 ^ f.fbits + c) = c * 2 ^ (f.minQuantum + k) := by
  have hpos : 0 < 2 ^ f.fbits := by positivity
  have hdouble : 2 ^ (f.fbits + 1) = 2 * 2 ^ f.fbits := by rw [pow_succ, Nat.mul_comm]
  obtain hlt | hge := Nat.lt_or_ge c (2 ^ f.fbits)
  · obtain rfl : k = 0 := hk.resolve_right (by omega)
    have hdiv : (0 * 2 ^ f.fbits + c) / 2 ^ f.fbits = 0 := by rw [Nat.zero_mul, Nat.zero_add, Nat.div_eq_of_lt hlt]
    have hmod : (0 * 2 ^ f.fbits + c) % 2 ^ f.fbits = c := by rw [Nat.zero_mul, Nat.zero_add, Nat.mod_eq_of_lt hlt]
    rw [Format.magnitude, if_pos hdiv, hmod]
    simp
  obtain ⟨r, rfl⟩ := Nat.exists_eq_add_of_le hge
  obtain hr | hr : r < 2 ^ f.fbits ∨ r = 2 ^ f.fbits := by omega
  · have hsum : k * 2 ^ f.fbits + (2 ^ f.fbits + r) = r + 2 ^ f.fbits * (k + 1) := by ring
    have hdiv : (r + 2 ^ f.fbits * (k + 1)) / 2 ^ f.fbits = k + 1 := by
      rw [Nat.add_mul_div_left _ _ hpos, Nat.div_eq_of_lt hr, Nat.zero_add]
    have hmod : (r + 2 ^ f.fbits * (k + 1)) % 2 ^ f.fbits = r := by rw [Nat.add_mul_mod_self_left, Nat.mod_eq_of_lt hr]
    rw [hsum, Format.magnitude, hdiv, hmod, if_neg (Nat.succ_ne_zero k)]
    push_cast
    ring_nf
  · subst hr
    have hsum : k * 2 ^ f.fbits + (2 ^ f.fbits + 2 ^ f.fbits) = 2 ^ f.fbits * (k + 2) := by ring
    have hexp : f.minQuantum + ((k + 2 : ℕ) : ℤ) - 1 = f.minQuantum + k + 1 := by push_cast; ring
    rw [hsum, Format.magnitude, Nat.mul_div_cancel_left _ hpos, Nat.mul_mod_right, if_neg (by omega), hexp,
      zpow_add_one₀ two_ne_zero]
    push_cast
    ring

theorem exists_scaled (f : Format) (n : ℕ) :
    ∃ k c, n = k * 2 ^ f.fbits + c ∧ c < 2 ^ (f.fbits + 1) ∧ (k = 0 ∨ 2 ^ f.fbits ≤ c) := by
  have hpos : 0 < 2 ^ f.fbits := by positivity
  have hdouble : 2 ^ (f.fbits + 1) = 2 * 2 ^ f.fbits := by rw [pow_succ, Nat.mul_comm]
  have hsplit := Nat.div_add_mod n (2 ^ f.fbits)
  have hlt := Nat.mod_lt n hpos
  cases hplace : n / 2 ^ f.fbits with
  | zero => exact ⟨0, n, by simp, by rw [hplace] at hsplit; omega, .inl rfl⟩
  | succ k =>
    refine ⟨k, 2 ^ f.fbits + n % 2 ^ f.fbits, ?_, by omega, .inr (by omega)⟩
    rw [hplace] at hsplit
    rw [← hsplit]
    ring_nf
    simp

theorem magnitude_lt_succ (f : Format) (n : ℕ) : f.magnitude n < f.magnitude (n + 1) := by
  obtain ⟨k, c, rfl, hc, hk⟩ := exists_scaled f n
  rw [magnitude_scaled hc.le hk, Nat.add_assoc, magnitude_scaled hc (hk.imp_right fun h => h.trans (Nat.le_succ c))]
  have hpos : (0 : ℝ) < 2 ^ (f.minQuantum + k) := by positivity
  push_cast
  nlinarith

theorem magnitude_strictMono (f : Format) : StrictMono f.magnitude := strictMono_nat_of_lt_succ (magnitude_lt_succ f)

theorem magnitude_zero (f : Format) : f.magnitude 0 = 0 := by
  rw [Format.magnitude, Nat.zero_div, if_pos rfl, Nat.zero_mod, Nat.cast_zero, zero_mul]

theorem magnitude_nonneg (f : Format) (n : ℕ) : 0 ≤ f.magnitude n :=
  (magnitude_zero f).symm.trans_le ((magnitude_strictMono f).monotone (Nat.zero_le n))

/-! ### What a bit pattern denotes -/

/-- A number with a sign. -/
def signed (sign : Bool) (x : ℝ) : ℝ := if sign then -x else x

theorem abs_signed (sign : Bool) {x : ℝ} (h : 0 ≤ x) : |signed sign x| = x := by
  cases sign <;> simp [signed, abs_of_nonneg h]

theorem infBits_lt (f : Format) : f.infBits < 2 ^ (f.ebits + f.fbits) := by
  have hpos : 0 < 2 ^ f.ebits := by positivity
  rw [Format.infBits, pow_add]
  exact Nat.mul_lt_mul_of_pos_right (by omega) (by positivity)

/-- Below the infinity a pattern is a finite value, which denotes its magnitude. -/
theorem unpack_of_lt {b : ℕ} (h : b % 2 ^ (f.ebits + f.fbits) < f.infBits) :
    ∃ m e, f.unpack b = .finite (b / 2 ^ (f.ebits + f.fbits) % 2 == 1) m e ∧
      (m : ℝ) * 2 ^ e = f.magnitude (b % 2 ^ (f.ebits + f.fbits)) := by
  have hexp : b % 2 ^ (f.ebits + f.fbits) / 2 ^ f.fbits = b / 2 ^ f.fbits % 2 ^ f.ebits := by
    rw [Nat.add_comm, pow_add, Nat.mod_mul_right_div_self]
  have hfrac : b % 2 ^ (f.ebits + f.fbits) % 2 ^ f.fbits = b % 2 ^ f.fbits :=
    Nat.mod_mod_of_dvd b (pow_dvd_pow 2 (Nat.le_add_left _ _))
  have hfinite : b / 2 ^ f.fbits % 2 ^ f.ebits ≠ 2 ^ f.ebits - 1 := by
    rw [← hexp]
    exact (Nat.div_lt_of_lt_mul (by rwa [Nat.mul_comm])).ne
  unfold Format.unpack Format.magnitude
  simp only [hexp, hfrac, if_neg hfinite]
  split
  · exact ⟨_, _, rfl, rfl⟩
  · exact ⟨_, _, rfl, rfl⟩

/-- From the infinity on a pattern denotes no number. -/
theorem ratValue_unpack_of_ge {b : ℕ} (h : f.infBits ≤ b % 2 ^ (f.ebits + f.fbits)) : ratValue (f.unpack b) = none := by
  have hexp : b % 2 ^ (f.ebits + f.fbits) / 2 ^ f.fbits = b / 2 ^ f.fbits % 2 ^ f.ebits := by
    rw [Nat.add_comm, pow_add, Nat.mod_mul_right_div_self]
  have hge : 2 ^ f.ebits - 1 ≤ b / 2 ^ f.fbits % 2 ^ f.ebits := by
    rw [← hexp]
    exact (Nat.le_div_iff_mul_le (by positivity)).mpr h
  have hlt := Nat.mod_lt (b / 2 ^ f.fbits) (show 0 < 2 ^ f.ebits by positivity)
  unfold Format.unpack
  simp only [if_pos (show b / 2 ^ f.fbits % 2 ^ f.ebits = 2 ^ f.ebits - 1 by omega)]
  split <;> rfl

/-- A finite value as the number it denotes. -/
theorem ratValue_finite (sign : Bool) (m : ℕ) (e : ℤ) :
    ∃ q : ℚ, ratValue (.finite sign m e) = some q ∧ (q : ℝ) = signed sign (m * 2 ^ e) := by
  refine ⟨_, rfl, ?_⟩
  cases sign <;> simp [signed]

theorem ratValue_unpack_of_lt {b : ℕ} (h : b % 2 ^ (f.ebits + f.fbits) < f.infBits) :
    ∃ q : ℚ, ratValue (f.unpack b) = some q ∧
      (q : ℝ) = signed (b / 2 ^ (f.ebits + f.fbits) % 2 == 1) (f.magnitude (b % 2 ^ (f.ebits + f.fbits))) := by
  obtain ⟨m, e, hunpack, hmag⟩ := unpack_of_lt h
  rw [hunpack, ← hmag]
  exact ratValue_finite _ m e

/-- The two fields of a pattern with its sign bit. -/
theorem signBits_fields (f : Format) (sign : Bool) (h : n < 2 ^ (f.ebits + f.fbits)) :
    (f.signBits sign + n) % 2 ^ (f.ebits + f.fbits) = n ∧
      ((f.signBits sign + n) / 2 ^ (f.ebits + f.fbits) % 2 == 1) = sign := by
  have hpos : 0 < 2 ^ (f.ebits + f.fbits) := by positivity
  cases sign
  · simp [Format.signBits, Nat.mod_eq_of_lt h, Nat.div_eq_of_lt h]
  · simp [Format.signBits, Nat.mod_eq_of_lt h, Nat.div_eq_of_lt h]

theorem ratValue_signBits (sign : Bool) (h : n < f.infBits) :
    ∃ q : ℚ, ratValue (f.unpack (f.signBits sign + n)) = some q ∧ (q : ℝ) = signed sign (f.magnitude n) := by
  obtain ⟨hmod, hsign⟩ := signBits_fields f sign (h.trans (infBits_lt f))
  have hvalue := ratValue_unpack_of_lt (f := f) (b := f.signBits sign + n) (by rwa [hmod])
  rwa [hmod, hsign] at hvalue

/-- The numbers of a format are the magnitudes below the infinity, with either sign. -/
theorem isNumber_iff (f : Format) (y : ℝ) : IsNumber f y ↔ ∃ sign, ∃ n < f.infBits, y = signed sign (f.magnitude n) := by
  constructor
  · rintro ⟨b, q, hq, rfl⟩
    obtain hlt | hge := Nat.lt_or_ge (b % 2 ^ (f.ebits + f.fbits)) f.infBits
    · obtain ⟨q', hq', hvalue⟩ := ratValue_unpack_of_lt hlt
      obtain rfl : q' = q := Option.some.inj (hq'.symm.trans hq)
      exact ⟨_, _, hlt, hvalue⟩
    · rw [ratValue_unpack_of_ge hge] at hq
      cases hq
  · rintro ⟨sign, n, hn, rfl⟩
    obtain ⟨q, hq, hvalue⟩ := ratValue_signBits sign hn
    exact ⟨_, q, hq, hvalue.symm⟩

end Sys2Proof.Machine
end

section
/-! Rounding (49 R412, R413): a number between two neighbouring patterns is cut to one of them, as the direction says, and the
same of its negative in the mirrored direction. -/

namespace Sys2Proof.Machine

variable {f : Format} {rd : BitVec 2} {sign : Bool}

/-! ### Between two neighbours -/

theorem direction_cases (rd : BitVec 2) : rd = 0 ∨ rd = 1 ∨ rd = 2 ∨ rd = 3 := by
  revert rd
  decide

section
variable {repr : ℝ → Prop} {even : Prop} {lo hi x : ℝ} {odd : Bool} {half : Ordering}

/-- A number that the format has is its own rounding in every direction. -/
theorem roundsTo_self : RoundsTo rd repr even x x := by
  obtain rfl | rfl | rfl | rfl := direction_cases rd
  · intro y _
    rw [sub_self, abs_zero]
    exact ⟨abs_nonneg _, fun hy => .inl (sub_eq_zero.mp (abs_eq_zero.mp hy.symm))⟩
  · exact ⟨le_refl _, mul_self_nonneg x, fun y _ hy => hy⟩
  · exact ⟨le_refl _, fun y _ hy => hy⟩
  · exact ⟨le_refl _, fun y _ hy => hy⟩

/-- Of a number that is not negative, cut between two neighbours: the one `roundsUp` picks is the one its direction names. -/
theorem roundsTo_bracket (hneg : ∀ y, repr y → repr (-y)) (hgap : ∀ y, repr y → y ≤ lo ∨ hi ≤ y) (h0 : 0 ≤ lo)
    (hlo : lo ≤ x) (hhi : x < hi) (hgt : half = .gt ↔ hi - x < x - lo) (heq : half = .eq ↔ x - lo = hi - x)
    (heven : even ↔ odd = roundsUp rd false odd (decide (lo < x)) half) :
    RoundsTo rd repr even x (if roundsUp rd false odd (decide (lo < x)) half then hi else lo) := by
  obtain rfl | rfl | rfl | rfl := direction_cases rd
  · intro y hy
    have hlo' : |lo - x| = x - lo := by rw [abs_sub_comm, abs_of_nonneg (sub_nonneg.mpr hlo)]
    have hhi' : |hi - x| = hi - x := abs_of_nonneg (sub_nonneg.mpr hhi.le)
    have hup : roundsUp 0 false odd (decide (lo < x)) half = true ↔ hi - x < x - lo ∨ x - lo = hi - x ∧ odd = true := by
      rw [← hgt, ← heq]
      cases half <;> simp [roundsUp]
    have hfar : y ≤ lo ∧ x - lo ≤ |y - x| ∧ (|y - x| = x - lo → y = lo) ∨
        hi ≤ y ∧ hi - x ≤ |y - x| ∧ (|y - x| = hi - x → y = hi) := by
      refine (hgap y hy).imp (fun h => ⟨h, ?_⟩) fun h => ⟨h, ?_⟩
      · rw [abs_sub_comm, abs_of_nonneg (by linarith)]
        exact ⟨by linarith, fun he => by linarith⟩
      · rw [abs_of_nonneg (by linarith)]
        exact ⟨by linarith, fun he => by linarith⟩
    rw [heven]
    by_cases hu : roundsUp 0 false odd (decide (lo < x)) half = true
    · rw [if_pos hu, hu, hhi']
      have htie := hup.mp hu
      obtain ⟨-, hy1, -⟩ | ⟨-, hy1, hy2⟩ := hfar
      · obtain hlt | ⟨htie, hodd⟩ := htie
        · exact ⟨by linarith, fun he => absurd he (by linarith)⟩
        · exact ⟨by linarith, fun _ => .inr hodd⟩
      · exact ⟨hy1, fun he => .inl (hy2 he.symm)⟩
    · rw [if_neg hu, Bool.eq_false_iff.mpr hu, hlo']
      have hnot := mt hup.mpr hu
      have hnear : x - lo ≤ hi - x := le_of_not_gt fun h => hnot (.inl h)
      obtain ⟨-, hy1, hy2⟩ | ⟨-, hy1, -⟩ := hfar
      · exact ⟨hy1, fun he => .inl (hy2 he.symm)⟩
      · exact ⟨by linarith, fun he => .inr (Bool.eq_false_iff.mpr fun hodd => hnot (.inr ⟨by linarith, hodd⟩))⟩
  · have habs (y : ℝ) (hy : repr y) : repr |y| := by
      obtain h | h := abs_choice y <;> rw [h]
      exacts [hy, hneg y hy]
    rw [if_neg (by simp [roundsUp])]
    refine ⟨?_, mul_nonneg h0 (h0.trans hlo), fun y hy hle => ?_⟩
    · rwa [abs_of_nonneg h0, abs_of_nonneg (h0.trans hlo)]
    · rw [abs_of_nonneg (h0.trans hlo)] at hle
      rw [abs_of_nonneg h0]
      exact (hgap _ (habs y hy)).resolve_right fun h => absurd (h.trans hle) (not_le.mpr hhi)
  · have hup : roundsUp 2 false odd (decide (lo < x)) half = decide (lo < x) := by simp [roundsUp]
    rw [hup]
    obtain heq | hlt := hlo.eq_or_lt
    · subst heq
      rw [decide_eq_false (lt_irrefl lo), if_neg Bool.false_ne_true]
      exact ⟨le_refl _, fun y _ hy => hy⟩
    · rw [decide_eq_true hlt, if_pos rfl]
      exact ⟨hhi.le, fun y hy hle => (hgap y hy).resolve_left fun h => absurd (hle.trans h) (not_le.mpr hlt)⟩
  · rw [if_neg (by simp [roundsUp])]
    exact ⟨hlo, fun y hy hle => (hgap y hy).resolve_right fun h => absurd (h.trans hle) (not_le.mpr hhi)⟩

/-! ### Negative numbers -/

/-- Of a negative number the directions up and down change places. -/
def mirrored (rd : BitVec 2) (sign : Bool) : BitVec 2 :=
  if sign then (if rd = 2 then 3 else if rd = 3 then 2 else rd) else rd

theorem roundsUp_mirrored (rd : BitVec 2) (sign odd inexact : Bool) (half : Ordering) :
    roundsUp rd sign odd inexact half = roundsUp (mirrored rd sign) false odd inexact half := by
  cases sign
  · rfl
  · obtain rfl | rfl | rfl | rfl := direction_cases rd <;> simp [mirrored, roundsUp]

theorem roundsTo_signed {v : ℝ} (hneg : ∀ y, repr y → repr (-y)) (h : RoundsTo (mirrored rd sign) repr even x v) :
    RoundsTo rd repr even (signed sign x) (signed sign v) := by
  cases sign
  · exact h
  have habs (y : ℝ) : |-v - -x| = |v - x| ∧ |y - -x| = |-y - x| := by
    refine ⟨?_, ?_⟩
    · rw [← abs_neg]; congr 1; ring
    · rw [← abs_neg]; congr 1; ring
  obtain rfl | rfl | rfl | rfl := direction_cases rd
  · intro y hy
    obtain ⟨hv, hy'⟩ := habs y
    obtain ⟨hle, htie⟩ := h (-y) (hneg y hy)
    rw [signed, signed, if_pos rfl, if_pos rfl, hv, hy']
    exact ⟨hle, fun he => (htie he).imp_left fun e => by linarith⟩
  · obtain ⟨hle, hsign, hmax⟩ := h
    rw [signed, signed, if_pos rfl, if_pos rfl]
    refine ⟨by rwa [abs_neg, abs_neg], by rwa [neg_mul_neg], fun y hy hy' => ?_⟩
    rw [abs_neg] at hy' ⊢
    exact hmax y hy hy'
  · obtain ⟨hle, hmax⟩ := h
    rw [signed, signed, if_pos rfl, if_pos rfl]
    exact ⟨neg_le_neg hle, fun y hy hy' => neg_le.mp (hmax (-y) (hneg y hy) (neg_le.mp hy'))⟩
  · obtain ⟨hle, hmax⟩ := h
    rw [signed, signed, if_pos rfl, if_pos rfl]
    exact ⟨neg_le_neg hle, fun y hy hy' => le_neg.mp (hmax (-y) (hneg y hy) (le_neg.mp hy'))⟩

end

/-! ### Cutting a significand (10_state R44) -/

/-- How the rest `rem` of an interval of `P` units compares with one half, as `cutRound` finds it. -/
def cutHalf (rem P : ℕ) (sticky : Bool) : Ordering :=
  if 2 * rem > P then .gt else if 2 * rem = P then (if sticky then .gt else .eq) else .lt

theorem cutHalf_eq_gt {rem P : ℕ} {sticky : Bool} : cutHalf rem P sticky = .gt ↔ P < 2 * rem ∨ P = 2 * rem ∧ sticky = true := by
  unfold cutHalf
  grind

theorem cutHalf_eq_eq {rem P : ℕ} {sticky : Bool} : cutHalf rem P sticky = .eq ↔ P = 2 * rem ∧ sticky = false := by
  unfold cutHalf
  grind

theorem cutRound_eq (rd : BitVec 2) (sign : Bool) (mant shift : ℕ) (sticky : Bool) :
    cutRound rd sign mant shift sticky =
      (mant / 2 ^ shift + (if roundsUp rd sign (mant / 2 ^ shift % 2 == 1) (mant % 2 ^ shift != 0 || sticky)
        (cutHalf (mant % 2 ^ shift) (2 ^ shift) sticky) then 1 else 0), mant % 2 ^ shift != 0 || sticky) := rfl

/-- A rest of `rem` units, and of part of one more where digits are lost (`sticky`), in an interval of an even number of
units. -/
theorem cutHalf_spec {rem P : ℕ} {sticky : Bool} {r w : ℝ} (hw : 0 < w) (hrem : rem < P)
    (hr : if sticky then P % 2 = 0 ∧ rem * w < r ∧ r < (rem + 1) * w else r = rem * w) :
    0 ≤ r ∧ r < P * w ∧ ((rem != 0 || sticky) = true ↔ 0 < r) ∧
      (cutHalf rem P sticky = .gt ↔ P * w - r < r) ∧ (cutHalf rem P sticky = .eq ↔ r = P * w - r) := by
  have hlast : ((rem : ℝ) + 1) * w ≤ P * w := mul_le_mul_of_nonneg_right (by exact_mod_cast hrem) hw.le
  have hunits : (0 : ℝ) ≤ rem * w := by positivity
  have hlt : (P : ℝ) * w < 2 * rem * w ↔ P < 2 * rem := by rw [mul_lt_mul_iff_left₀ hw]; norm_cast
  have heq : (P : ℝ) * w = 2 * rem * w ↔ P = 2 * rem := by rw [mul_left_inj' hw.ne']; norm_cast
  rw [cutHalf_eq_gt, cutHalf_eq_eq, ← hlt, ← heq]
  cases sticky
  · obtain rfl : r = rem * w := by simpa using hr
    refine ⟨hunits, by linarith, by simp [hw, Nat.pos_iff_ne_zero], ?_, ?_⟩
    · simp only [Bool.false_eq_true, and_false, or_false]
      constructor <;> intro h <;> linarith
    · simp only [and_true]
      constructor <;> intro h <;> linarith
  · obtain ⟨heven, hlo, hhi⟩ : P % 2 = 0 ∧ rem * w < r ∧ r < (rem + 1) * w := by simpa using hr
    have hpos : 0 < r := hunits.trans_lt hlo
    have hside : P * w ≤ 2 * rem * w ∨ (2 * rem + 2) * w ≤ P * w := by
      obtain h | h : P ≤ 2 * rem ∨ 2 * rem + 2 ≤ P := by omega
      · exact .inl (mul_le_mul_of_nonneg_right (by exact_mod_cast h) hw.le)
      · exact .inr (mul_le_mul_of_nonneg_right (by exact_mod_cast h) hw.le)
    refine ⟨hpos.le, by linarith, by simp [hpos], ?_, ?_⟩
    · simp only [and_true, ← le_iff_lt_or_eq]
      obtain h | h := hside
      · exact iff_of_true h (by linarith)
      · exact iff_of_false (by linarith) (by linarith)
    · simp only [Bool.true_eq_false, and_false, false_iff]
      obtain h | h := hside <;> linarith

/-- Where a significand is cut: the two neighbours, in units of `2 ^ shift` times the unit `w`, whether the number is one of
them, and to which it is nearer. With digits lost below it (`sticky`) it is strictly inside. -/
theorem cutRound_spec {mant shift : ℕ} {sticky : Bool} {x w : ℝ} (hw : 0 < w)
    (hx : if sticky then 0 < shift ∧ mant * w < x ∧ x < (mant + 1) * w else x = mant * w) (rd : BitVec 2) (sign : Bool)
    {lo hi : ℝ} (hlo : lo = (mant / 2 ^ shift : ℕ) * (2 ^ shift * w))
    (hhi : hi = ((mant / 2 ^ shift : ℕ) + 1) * (2 ^ shift * w)) :
    lo ≤ x ∧ x < hi ∧ ∃ half, (half = .gt ↔ hi - x < x - lo) ∧ (half = .eq ↔ x - lo = hi - x) ∧
      cutRound rd sign mant shift sticky =
        (mant / 2 ^ shift + (if roundsUp rd sign (mant / 2 ^ shift % 2 == 1) (decide (lo < x)) half then 1 else 0),
          decide (lo < x)) := by
  have hmant : (mant : ℝ) = 2 ^ shift * (mant / 2 ^ shift : ℕ) + (mant % 2 ^ shift : ℕ) := by
    exact_mod_cast (Nat.div_add_mod mant (2 ^ shift)).symm
  have hwidth : hi = lo + ((2 ^ shift : ℕ) : ℝ) * w := by rw [hhi, hlo]; push_cast; ring
  have hbase : mant * w = lo + (mant % 2 ^ shift : ℕ) * w := by
    rw [hlo]
    nth_rw 1 [hmant]
    ring
  have hrest : if sticky then 2 ^ shift % 2 = 0 ∧ (mant % 2 ^ shift : ℕ) * w < x - lo ∧
      x - lo < ((mant % 2 ^ shift : ℕ) + 1) * w else x - lo = (mant % 2 ^ shift : ℕ) * w := by
    cases sticky
    · simp only [Bool.false_eq_true, if_false] at hx ⊢
      linarith
    · obtain ⟨hshift, hgt, hlt⟩ : 0 < shift ∧ mant * w < x ∧ x < (mant + 1) * w := by simpa using hx
      simp only [if_true]
      exact ⟨Nat.mod_eq_zero_of_dvd (dvd_pow_self 2 hshift.ne'), by linarith, by linarith⟩
  obtain ⟨h0, hP, hinexact, hgt, heq⟩ := cutHalf_spec hw (Nat.mod_lt mant (by positivity)) hrest
  have hflag : (mant % 2 ^ shift != 0 || sticky) = decide (lo < x) := by
    rw [Bool.eq_iff_iff, hinexact, decide_eq_true_iff, sub_pos]
  refine ⟨by linarith, by linarith, cutHalf (mant % 2 ^ shift) (2 ^ shift) sticky, ?_, ?_, ?_⟩
  · rw [hgt, hwidth]
    constructor <;> intro h <;> linarith
  · rw [heq, hwidth]
    constructor <;> intro h <;> linarith
  · rw [cutRound_eq, hflag]

end Sys2Proof.Machine
end

section
/-! O55: `round` picks the two patterns around a number and rounds between them; a number above them all overflows. -/

namespace Sys2Proof.Machine

variable {f : Format} {rd : BitVec 2} {sign sticky : Bool} {env : FpEnv} {m n : ℕ} {e : ℤ} {x : ℝ}

/-! ### Where `round` cuts -/

/-- The place of the last digit `round` keeps. -/
def Format.quantum (f : Format) (m : ℕ) (e : ℤ) : ℤ := max (e + (Nat.log2 m : ℤ) - (f.fbits : ℤ)) f.minQuantum

/-- The significand written with the digits down to that place. -/
def Format.scaled (f : Format) (m : ℕ) (e : ℤ) : ℕ := m * 2 ^ (e - f.quantum m e).toNat

/-- How many digits `round` cuts off. -/
def Format.cutPlaces (f : Format) (m : ℕ) (e : ℤ) : ℕ := (f.quantum m e - e).toNat

/-- The pattern below or at a number, its sign left out. -/
def Format.floorBits (f : Format) (m : ℕ) (e : ℤ) : ℕ :=
  (f.quantum m e - f.minQuantum).toNat * 2 ^ f.fbits + f.scaled m e / 2 ^ f.cutPlaces m e

/-- The pattern `round` computes, its sign left out, infinities and NaNs not yet told from numbers. -/
def Format.cutBits (f : Format) (rd : BitVec 2) (sign : Bool) (m : ℕ) (e : ℤ) (sticky : Bool) : ℕ :=
  (f.quantum m e - f.minQuantum).toNat * 2 ^ f.fbits + (cutRound rd sign (f.scaled m e) (f.cutPlaces m e) sticky).1

theorem round_zero (f : Format) (env : FpEnv) (sign : Bool) (e : ℤ) (sticky : Bool) :
    f.round env sign 0 e sticky = .ok (f.signBits sign) := rfl

theorem round_overflow (hm : m ≠ 0) (h : f.infBits ≤ f.cutBits env.rd sign m e sticky) :
    f.round env sign m e sticky =
      { bits := .exact (f.signBits sign + f.overflowBits env.rd sign), exc := excOF ||| excNX, tiny := false } := by
  unfold Format.round
  rw [if_neg hm]
  exact if_pos h

/-- Without overflow the flags are those of an inexact and of a tiny result. -/
theorem exc_of_fits (inexact underflow : Bool) :
    ((if inexact then excNX else 0) ||| (if underflow then excUF else 0)) &&& excOF = 0 ∧
      (((if inexact then excNX else 0) ||| (if underflow then excUF else 0)) &&& excNX = 0 ↔ inexact = false) := by
  revert inexact underflow
  decide

theorem round_fits (hm : m ≠ 0) (h : f.cutBits env.rd sign m e sticky < f.infBits) :
    (f.round env sign m e sticky).bits = .exact (f.signBits sign + f.cutBits env.rd sign m e sticky) ∧
      (f.round env sign m e sticky).exc &&& excOF = 0 ∧
      ((f.round env sign m e sticky).exc &&& excNX = 0 ↔
        (cutRound env.rd sign (f.scaled m e) (f.cutPlaces m e) sticky).2 = false) := by
  have hround : ∃ underflow tiny : Bool, f.round env sign m e sticky =
      { bits := .exact (f.signBits sign + f.cutBits env.rd sign m e sticky)
        exc := (if (cutRound env.rd sign (f.scaled m e) (f.cutPlaces m e) sticky).2 then excNX else 0) |||
          (if underflow then excUF else 0)
        tiny := tiny } :=
    ⟨_, _, (if_neg hm).trans (if_neg (not_le.mpr h))⟩
  obtain ⟨underflow, tiny, hround⟩ := hround
  rw [hround]
  exact ⟨rfl, exc_of_fits _ _⟩

/-! ### The digits kept -/

theorem kept_digits (hm : m ≠ 0) :
    f.scaled m e / 2 ^ f.cutPlaces m e < 2 ^ (f.fbits + 1) ∧
      ((f.quantum m e - f.minQuantum).toNat = 0 ∨ 2 ^ f.fbits ≤ f.scaled m e / 2 ^ f.cutPlaces m e) := by
  have hlow : 2 ^ Nat.log2 m ≤ m := Nat.log2_self_le hm
  have hhigh : m < 2 ^ (Nat.log2 m + 1) := Nat.lt_log2_self
  unfold Format.scaled Format.cutPlaces
  have hnatural : e + (Nat.log2 m : ℤ) - (f.fbits : ℤ) ≤ f.quantum m e := le_max_left _ _
  have hplace : f.quantum m e = f.minQuantum ∨ f.quantum m e = e + (Nat.log2 m : ℤ) - (f.fbits : ℤ) := by
    unfold Format.quantum; omega
  generalize f.quantum m e = Q at hnatural hplace
  obtain hQ | hQ := le_total Q e
  · obtain ⟨up, rfl⟩ := Int.le.dest hQ
    rw [show (Q - (Q + up)).toNat = 0 by omega, show (Q + up - Q).toNat = up by omega, pow_zero, Nat.div_one]
    constructor
    · calc m * 2 ^ up < 2 ^ (Nat.log2 m + 1) * 2 ^ up := Nat.mul_lt_mul_of_pos_right hhigh (by positivity)
        _ = 2 ^ (Nat.log2 m + 1 + up) := (pow_add ..).symm
        _ ≤ 2 ^ (f.fbits + 1) := Nat.pow_le_pow_right (by decide) (by omega)
    · refine hplace.imp (fun h => by omega) fun h => ?_
      calc 2 ^ f.fbits = 2 ^ (Nat.log2 m + up) := by congr 1; omega
        _ = 2 ^ Nat.log2 m * 2 ^ up := pow_add ..
        _ ≤ m * 2 ^ up := Nat.mul_le_mul_right _ hlow
  · obtain ⟨cut, rfl⟩ := Int.le.dest hQ
    rw [show (e + cut - e).toNat = cut by omega, show (e - (e + cut)).toNat = 0 by omega, pow_zero, Nat.mul_one]
    constructor
    · rw [Nat.div_lt_iff_lt_mul (by positivity), ← pow_add]
      exact hhigh.trans_le (Nat.pow_le_pow_right (by decide) (by omega))
    · refine hplace.imp (fun h => by omega) fun h => ?_
      rw [Nat.le_div_iff_mul_le (by positivity), ← pow_add]
      exact le_trans (le_of_eq (by congr 1; omega)) hlow

/-- The unit `w` of the written significand: cut places of it make a unit of the last place kept. -/
theorem scaled_unit (f : Format) (m : ℕ) (e : ℤ) :
    ∃ w : ℝ, 0 < w ∧ 2 ^ f.cutPlaces m e * w = 2 ^ f.quantum m e ∧ f.scaled m e * w = m * 2 ^ e ∧
      (2 ^ (f.fbits + 1) ≤ m → 0 < f.cutPlaces m e ∧ f.scaled m e = m ∧ w = 2 ^ e) := by
  refine ⟨2 ^ (f.quantum m e - f.cutPlaces m e), by positivity, ?_, ?_, fun hm => ?_⟩
  · rw [← zpow_natCast, ← zpow_add₀ two_ne_zero]
    congr 1
    ring
  · unfold Format.scaled Format.cutPlaces
    push_cast
    rw [mul_assoc, ← zpow_natCast, ← zpow_add₀ two_ne_zero]
    congr 2
    omega
  · have hlog : f.fbits + 1 ≤ Nat.log2 m := (Nat.le_log2 (Nat.ne_of_gt (lt_of_lt_of_le (by positivity) hm))).mpr hm
    have hplace : e + (Nat.log2 m : ℤ) - (f.fbits : ℤ) ≤ f.quantum m e := le_max_left _ _
    unfold Format.scaled Format.cutPlaces
    rw [show (e - f.quantum m e).toNat = 0 by omega, pow_zero, Nat.mul_one]
    exact ⟨by omega, rfl, by congr 1; omega⟩

/-! ### The two patterns around a number -/

/-- A number in units of its significand, or strictly between two of them where digits are lost (R412). -/
def Denotes (f : Format) (m : ℕ) (e : ℤ) (sticky : Bool) (x : ℝ) : Prop :=
  if sticky then 2 ^ (f.fbits + 1) ≤ m ∧ (m : ℝ) * (2 : ℝ) ^ e < x ∧ x < ((m : ℝ) + 1) * (2 : ℝ) ^ e
  else x = (m : ℝ) * (2 : ℝ) ^ e

theorem Denotes.pos (h : Denotes f m e sticky x) (hm : m ≠ 0) : 0 < x := by
  have hpos : (0 : ℝ) < m * 2 ^ e := by positivity
  unfold Denotes at h
  split at h
  · exact hpos.trans h.2.1
  · exact h ▸ hpos

theorem cutBits_spec (hf : 0 < f.fbits) (hm : m ≠ 0) (h : Denotes f m e sticky x) (rd : BitVec 2) (sign : Bool) :
    f.magnitude (f.floorBits m e) ≤ x ∧ x < f.magnitude (f.floorBits m e + 1) ∧ ∃ half,
      (half = .gt ↔ f.magnitude (f.floorBits m e + 1) - x < x - f.magnitude (f.floorBits m e)) ∧
      (half = .eq ↔ x - f.magnitude (f.floorBits m e) = f.magnitude (f.floorBits m e + 1) - x) ∧
      f.cutBits rd sign m e sticky = f.floorBits m e +
        (if roundsUp rd sign (f.floorBits m e % 2 == 1) (decide (f.magnitude (f.floorBits m e) < x)) half then 1 else 0) ∧
      (cutRound rd sign (f.scaled m e) (f.cutPlaces m e) sticky).2 = decide (f.magnitude (f.floorBits m e) < x) := by
  obtain ⟨hlt, hfirst⟩ := kept_digits (f := f) (e := e) hm
  obtain ⟨w, hw, hunit, hvalue, hsticky⟩ := scaled_unit f m e
  have hquantum : f.minQuantum + ((f.quantum m e - f.minQuantum).toNat : ℤ) = f.quantum m e := by
    have : f.minQuantum ≤ f.quantum m e := le_max_right _ _
    omega
  have hlo : f.magnitude (f.floorBits m e) =
      (f.scaled m e / 2 ^ f.cutPlaces m e : ℕ) * (2 ^ f.cutPlaces m e * w) := by
    rw [hunit, Format.floorBits, magnitude_scaled hlt.le hfirst, hquantum]
  have hhi : f.magnitude (f.floorBits m e + 1) =
      ((f.scaled m e / 2 ^ f.cutPlaces m e : ℕ) + 1) * (2 ^ f.cutPlaces m e * w) := by
    rw [hunit, Format.floorBits, Nat.add_assoc, magnitude_scaled hlt (hfirst.imp_right fun h => h.trans (Nat.le_succ _)),
      hquantum, Nat.cast_succ]
  have hx : if sticky then 0 < f.cutPlaces m e ∧ f.scaled m e * w < x ∧ x < (f.scaled m e + 1) * w
      else x = f.scaled m e * w := by
    cases sticky
    · rw [hvalue]
      exact h
    · obtain ⟨hkept, hgt, hle⟩ := h
      obtain ⟨hcut, hscaled, hunit'⟩ := hsticky hkept
      rw [hscaled, hunit']
      exact ⟨hcut, hgt, hle⟩
  have hodd : (f.scaled m e / 2 ^ f.cutPlaces m e % 2 == 1) = (f.floorBits m e % 2 == 1) := by
    have heven : (f.quantum m e - f.minQuantum).toNat * 2 ^ f.fbits % 2 = 0 :=
      Nat.mod_eq_zero_of_dvd (Dvd.dvd.mul_left (dvd_pow_self 2 hf.ne') _)
    rw [Format.floorBits, Nat.add_mod, heven, Nat.zero_add, Nat.mod_mod]
  obtain ⟨hle, hgt, half, hhalf, htie, hcut⟩ := cutRound_spec hw hx rd sign hlo hhi
  refine ⟨hle, hgt, half, hhalf, htie, ?_, ?_⟩
  · rw [Format.cutBits, hcut, hodd, Format.floorBits, Nat.add_assoc]
  · rw [hcut]

/-! ### The rounded number -/

theorem isNumber_neg {y : ℝ} (h : IsNumber f y) : IsNumber f (-y) := by
  obtain ⟨s, n, hn, rfl⟩ := (isNumber_iff f y).mp h
  exact (isNumber_iff f _).mpr ⟨!s, n, hn, by cases s <;> simp [signed]⟩

/-- No number of the format is between two patterns that follow each other. -/
theorem isNumber_gap (n : ℕ) {y : ℝ} (h : IsNumber f y) : y ≤ f.magnitude n ∨ f.magnitude (n + 1) ≤ y := by
  obtain ⟨s, k, -, rfl⟩ := (isNumber_iff f y).mp h
  cases s
  · exact (Nat.lt_or_ge n k).symm.imp (fun h => (magnitude_strictMono f).monotone h)
      fun h => (magnitude_strictMono f).monotone h
  · exact .inl ((neg_nonpos.mpr (magnitude_nonneg f k)).trans (magnitude_nonneg f n))

/-- Every number of the format is, but for its sign, at most the last pattern below the infinity. -/
theorem isNumber_abs_le {y : ℝ} (h : IsNumber f y) : |y| ≤ f.magnitude (f.infBits - 1) := by
  obtain ⟨s, k, hk, rfl⟩ := (isNumber_iff f y).mp h
  rw [abs_signed s (magnitude_nonneg f k)]
  exact (magnitude_strictMono f).monotone (by omega)

/-- Only a number that is not representable is rounded up. -/
theorem inexact_of_roundsUp {odd : Bool} {half : Ordering} {lo hi : ℝ} (hhi : x < hi)
    (hgt : half = .gt ↔ hi - x < x - lo) (heq : half = .eq ↔ x - lo = hi - x)
    (h : roundsUp rd sign odd (decide (lo < x)) half = true) : lo < x := by
  rw [roundsUp_mirrored] at h
  generalize mirrored rd sign = d at h
  obtain rfl | rfl | rfl | rfl := direction_cases d
  · cases half with
    | lt => simp [roundsUp] at h
    | eq => linarith [heq.mp rfl]
    | gt => linarith [hgt.mp rfl]
  · simp [roundsUp] at h
  · simpa [roundsUp] using h
  · simp [roundsUp] at h

theorem signBits_even (hf : 0 < f.fbits) (sign : Bool) : f.signBits sign % 2 = 0 := by
  cases sign
  · rfl
  · exact Nat.mod_eq_zero_of_dvd (dvd_pow_self 2 (by omega))

/-- The pattern `round` computes, where it is that of a number, is the exact one rounded. -/
theorem roundsTo_cutBits (hf : 0 < f.fbits) (hm : m ≠ 0) (h : Denotes f m e sticky x) :
    RoundsTo rd (IsNumber f) ((f.signBits sign + f.cutBits rd sign m e sticky) % 2 = 0) (signed sign x)
        (signed sign (f.magnitude (f.cutBits rd sign m e sticky))) ∧
      ((cutRound rd sign (f.scaled m e) (f.cutPlaces m e) sticky).2 = false ↔
        f.magnitude (f.cutBits rd sign m e sticky) = x) := by
  obtain ⟨hle, hlt, half, hgt, heq, hcut, hinexact⟩ := cutBits_spec hf hm h rd sign
  have hup := fun hu => inexact_of_roundsUp (rd := rd) (sign := sign) (odd := f.floorBits m e % 2 == 1) hlt hgt heq hu
  rw [hcut, hinexact]
  generalize f.floorBits m e = n at hle hlt hgt heq hup
  have hparity := signBits_even hf sign
  constructor
  · refine roundsTo_signed (fun _ => isNumber_neg) ?_
    have hbracket := roundsTo_bracket (repr := IsNumber f) (rd := mirrored rd sign) (odd := n % 2 == 1)
      (even := (f.signBits sign + (n + if roundsUp rd sign (n % 2 == 1) (decide (f.magnitude n < x)) half then 1 else 0))
        % 2 = 0) (fun _ => isNumber_neg) (fun _ => isNumber_gap n) (magnitude_nonneg f n) hle hlt hgt heq
        (by
          rw [← roundsUp_mirrored]
          generalize roundsUp rd sign (n % 2 == 1) (decide (f.magnitude n < x)) half = up
          cases up <;> simp <;> omega)
    rw [← roundsUp_mirrored] at hbracket
    rwa [apply_ite (fun k => f.magnitude (n + k)), Nat.add_zero]
  · rw [decide_eq_false_iff_not, not_lt]
    split
    · next hu => exact iff_of_false (not_le.mpr (hup hu)) hlt.ne'
    · exact ⟨fun h => le_antisymm hle h, fun h => h.ge⟩

theorem infBits_gt_one (he : 0 < f.ebits) (hf : 0 < f.fbits) : 1 < f.infBits := by
  have hexp : 1 < 2 ^ f.ebits := Nat.one_lt_two_pow he.ne'
  have hfrac : 1 < 2 ^ f.fbits := Nat.one_lt_two_pow hf.ne'
  exact Nat.one_lt_mul_iff.mpr ⟨by omega, by omega, .inr hfrac⟩

/-- A number whose pattern is not that of a number is larger than every one of the format. -/
theorem lt_of_infBits_le (he : 0 < f.ebits) (hf : 0 < f.fbits) (hm : m ≠ 0) (h : Denotes f m e sticky x)
    (hcut : f.infBits ≤ f.cutBits rd sign m e sticky) : f.magnitude (f.infBits - 1) < x := by
  obtain ⟨hle, hlt, half, hgt, heq, hbits, -⟩ := cutBits_spec hf hm h rd sign
  have hpos := infBits_gt_one he hf
  rw [hbits] at hcut
  split at hcut
  · next hu =>
    exact ((magnitude_strictMono f).monotone (by omega)).trans_lt (inexact_of_roundsUp hlt hgt heq hu)
  · exact (magnitude_strictMono f (by omega)).trans_le hle

/-- From the infinity on a pattern is the infinity or a NaN, signaling by its first fraction bit. -/
theorem unpack_special {b r : ℕ} (hr : r < 2 ^ f.fbits) (hb : b % 2 ^ (f.ebits + f.fbits) = f.infBits + r) :
    f.unpack b = if r = 0 then .inf (b / 2 ^ (f.ebits + f.fbits) % 2 == 1)
      else .nan (decide (r < 2 ^ (f.fbits - 1))) (b % 2 ^ (1 + f.ebits + f.fbits)) := by
  have hsum : f.infBits + r = r + 2 ^ f.fbits * (2 ^ f.ebits - 1) := by rw [Format.infBits]; ring
  have hexp : b / 2 ^ f.fbits % 2 ^ f.ebits = 2 ^ f.ebits - 1 := by
    rw [← Nat.mod_mul_right_div_self, ← pow_add, Nat.add_comm f.fbits, hb, hsum, Nat.add_mul_div_left _ _ (by positivity),
      Nat.div_eq_of_lt hr, Nat.zero_add]
  have hfrac : b % 2 ^ f.fbits = r := by
    rw [← Nat.mod_mod_of_dvd b (pow_dvd_pow 2 (Nat.le_add_left f.fbits f.ebits)), hb, hsum, Nat.add_mul_mod_self_left,
      Nat.mod_eq_of_lt hr]
  unfold Format.unpack
  simp only [hexp, hfrac, if_true]

theorem unpack_infBits (f : Format) (sign : Bool) : f.unpack (f.signBits sign + f.infBits) = .inf sign := by
  obtain ⟨hmod, hsign⟩ := signBits_fields f sign (infBits_lt f)
  rw [unpack_special (r := 0) (by positivity) (by rw [hmod, Nat.add_zero]), if_pos rfl, hsign]

theorem overflowBits_eq (f : Format) (rd : BitVec 2) (sign : Bool) :
    f.overflowBits rd sign = if overflowsToInf rd sign then f.infBits else f.infBits - 1 := by
  obtain rfl | rfl | rfl | rfl := direction_cases rd <;> cases sign <;> rfl

theorem prec_ebits (p : Prec) : 0 < p.format.ebits := by cases p <;> decide

theorem prec_fbits (p : Prec) : 0 < p.format.fbits := by cases p <;> decide

/-- What the flags say of a number that did not overflow. -/
def RoundedNumber (f : Format) (rd : BitVec 2) (x : ℝ) (bits : ℕ) (exc : BitVec 5) (v : ℝ) : Prop :=
  RoundsTo rd (IsNumber f) (bits % 2 = 0) x v ∧ (exc &&& excNX = 0 ↔ v = x)

theorem rounded_of_number {p : Prec} {r : FpResult} {b : ℕ} (hb : b < p.format.infBits)
    (hbits : r.bits = .exact (p.format.signBits sign + b)) (hof : r.exc &&& excOF = 0)
    (h : RoundedNumber p.format rd x (p.format.signBits sign + b) r.exc (signed sign (p.format.magnitude b))) :
    Rounded p rd x r := by
  obtain ⟨q, hq, hvalue⟩ := ratValue_signBits (f := p.format) sign hb
  refine ⟨_, hbits, ?_⟩
  rw [if_pos hof]
  rw [← hvalue] at h
  exact ⟨q, hq, h⟩

theorem signed_eq_iff (sign : Bool) (x y : ℝ) : signed sign x = signed sign y ↔ x = y := by
  cases sign <;> simp [signed]

/-- An overflow gives the infinity or the largest number, whichever the direction says, of a number beyond them all. -/
theorem rounded_overflow (p : Prec) {r : FpResult} (hx : p.format.magnitude (p.format.infBits - 1) < x)
    (hexc : r.exc = excOF ||| excNX) (hbits : r.bits = .exact (p.format.signBits sign + p.format.overflowBits rd sign)) :
    Rounded p rd (signed sign x) r := by
  have hlast := infBits_gt_one (prec_ebits p) (prec_fbits p)
  have hmag : 0 < p.format.magnitude (p.format.infBits - 1) :=
    (magnitude_zero p.format).symm.trans_lt (magnitude_strictMono _ (by omega))
  have hpos : 0 < x := hmag.trans hx
  refine ⟨_, hbits, ?_⟩
  rw [if_neg (by rw [hexc]; decide), overflowBits_eq]
  refine ⟨hexc, fun y hy => ?_, sign, ?_, ?_⟩
  · rw [abs_signed sign hpos.le]
    exact (isNumber_abs_le hy).trans_lt hx
  · cases sign <;> simp [signed, hpos, hpos.le]
  · split
    · exact unpack_infBits _ sign
    · obtain ⟨q, hq, hvalue⟩ := ratValue_signBits (f := p.format) (n := p.format.infBits - 1) sign (by omega)
      refine ⟨q, hq, ?_, fun y hy => ?_⟩
      · rw [hvalue]
        cases sign <;> simp [signed, mul_pos hmag hpos]
      · rw [hvalue, abs_signed sign hmag.le]
        exact isNumber_abs_le hy

/-- `round` rounds once (R412, R413). -/
theorem rounded_round (p : Prec) (env : FpEnv) (sign : Bool) (h : Denotes p.format m e sticky x) :
    Rounded p env.rd (signed sign x) (p.format.round env sign m e sticky) := by
  have he := prec_ebits p
  have hf := prec_fbits p
  obtain rfl | hm := Nat.eq_zero_or_pos m
  · have hx : x = 0 := by
      cases sticky
      · simpa [Denotes] using h
      · exact absurd h.1 (by simp)
    rw [round_zero]
    refine rounded_of_number (sign := sign) (b := 0) (Nat.zero_lt_of_lt (infBits_gt_one he hf)) rfl (by simp [FpResult.ok]) ?_
    rw [hx, magnitude_zero]
    exact ⟨roundsTo_self, by simp [FpResult.ok]⟩
  replace hm := hm.ne'
  obtain hfits | hover := Nat.lt_or_ge (p.format.cutBits env.rd sign m e sticky) p.format.infBits
  · obtain ⟨hbits, hof, hnx⟩ := round_fits hm hfits
    obtain ⟨hrounds, hexact⟩ := roundsTo_cutBits (rd := env.rd) (sign := sign) hf hm h
    exact rounded_of_number hfits hbits hof ⟨hrounds, by rw [hnx, hexact, signed_eq_iff]⟩
  · rw [round_overflow hm hover]
    exact rounded_overflow p (lt_of_infBits_le he hf hm h hover) rfl rfl

/-- Settles O55: the two patterns around the number are neighbours, and `round` takes the one its direction names. -/
theorem roundingIsCorrect : Obligations.RoundingIsCorrect := by
  unfold Obligations.RoundingIsCorrect
  intro p env sign m e sticky x h
  exact rounded_round p env sign h

end Sys2Proof.Machine
end

section
/-! The operations on numbers (49 R415 to R447): each computes its exact result as a significand and an exponent, with a sticky
bit where a quotient or a root goes on, and rounds it once. -/

namespace Sys2Proof.Machine

variable {p q : Prec} {env : FpEnv} {u v : FpVal} {a b : ℚ} {x y : ℕ}

/-! ### The number a value denotes -/

theorem signedMant_mul (s : Bool) (m : ℕ) (r : ℝ) : (signedMant s m : ℝ) * r = signed s (m * r) := by
  cases s <;> simp [signedMant, signed]

theorem signed_mul (s t : Bool) (x y : ℝ) : signed s x * signed t y = signed (s ^^ t) (x * y) := by
  cases s <;> cases t <;> simp [signed]

theorem signed_div (s t : Bool) (x y : ℝ) : signed s x / signed t y = signed (s ^^ t) (x / y) := by
  cases s <;> cases t <;> simp [signed, neg_div, div_neg]

/-- A value that denotes a number is finite. -/
theorem ratValue_eq_some (h : ratValue u = some a) :
    ∃ s m e, u = .finite s m e ∧ (a : ℝ) = signed s (m * 2 ^ e) := by
  cases u with
  | finite s m e =>
    obtain ⟨r, hr, hvalue⟩ := ratValue_finite s m e
    obtain rfl : r = a := Option.some.inj (hr.symm.trans h)
    exact ⟨s, m, e, rfl, hvalue⟩
  | inf s => cases h
  | nan s n => cases h

theorem ratValue_neg (h : ratValue u = some a) : ratValue u.neg = some (-a) := by
  obtain ⟨s, m, e, rfl, -⟩ := ratValue_eq_some h
  obtain rfl := Option.some.inj h
  cases s <;> simp [FpVal.neg, ratValue]

/-- A significand moved to a lower place. -/
theorem aligned_mul {e e' : ℤ} (s : Bool) (m : ℕ) (h : e' ≤ e) :
    (signedMant s (m * 2 ^ (e - e').toNat) : ℝ) * 2 ^ e' = signed s (m * 2 ^ e) := by
  rw [signedMant_mul]
  congr 1
  push_cast
  rw [mul_assoc, ← zpow_natCast, ← zpow_add₀ two_ne_zero]
  congr 2
  omega

/-- The exact sum of two finite values, as an integer at the lower of their places. -/
def alignedSum (sx : Bool) (mx : ℕ) (ex : ℤ) (sy : Bool) (my : ℕ) (ey : ℤ) : ℤ :=
  signedMant sx (mx * 2 ^ (ex - min ex ey).toNat) + signedMant sy (my * 2 ^ (ey - min ex ey).toNat)

theorem alignedSum_mul (sx : Bool) (mx : ℕ) (ex : ℤ) (sy : Bool) (my : ℕ) (ey : ℤ) :
    (alignedSum sx mx ex sy my ey : ℝ) * 2 ^ min ex ey = signed sx (mx * 2 ^ ex) + signed sy (my * 2 ^ ey) := by
  rw [alignedSum, Int.cast_add, add_mul, aligned_mul sx mx (min_le_left ex ey), aligned_mul sy my (min_le_right ex ey)]

theorem signed_natAbs {s : Bool} {k : ℤ} (r : ℝ) (h : k ≠ 0 → s = decide (k < 0)) :
    signed s ((k.natAbs : ℝ) * r) = k * r := by
  obtain rfl | hk := eq_or_ne k 0
  · cases s <;> simp [signed]
  · rw [h hk]
    obtain hneg | hpos := lt_or_ge k 0
    · rw [decide_eq_true hneg, signed, if_pos rfl, ← neg_mul]
      congr 1
      exact_mod_cast (by omega : -(k.natAbs : ℤ) = k)
    · rw [decide_eq_false hpos.not_gt, signed, if_neg Bool.false_ne_true]
      congr 1
      rw [Nat.cast_natAbs, abs_of_nonneg hpos]

theorem denotes_exact (f : Format) (m : ℕ) (e : ℤ) : Denotes f m e false (m * 2 ^ e) := rfl

/-! ### Sums, products, conversions -/

theorem addVal_finite (f : Format) (env : FpEnv) (sx : Bool) (mx : ℕ) (ex : ℤ) (sy : Bool) (my : ℕ) (ey : ℤ) :
    f.addVal env (.finite sx mx ex) (.finite sy my ey) =
      f.round env (sumSign env.rd sx sy (alignedSum sx mx ex sy my ey)) (alignedSum sx mx ex sy my ey).natAbs
        (min ex ey) false := rfl

theorem sumSign_of_ne {rd : BitVec 2} {sx sy : Bool} {k : ℤ} (h : k ≠ 0) : sumSign rd sx sy k = decide (k < 0) := if_neg h

theorem rounded_addVal (ha : ratValue u = some a) (hb : ratValue v = some b) :
    Rounded p env.rd (a + b) (p.format.addVal env u v) := by
  obtain ⟨sx, mx, ex, rfl, hx⟩ := ratValue_eq_some ha
  obtain ⟨sy, my, ey, rfl, hy⟩ := ratValue_eq_some hb
  rw [addVal_finite, hx, hy, ← alignedSum_mul, ← signed_natAbs _ (sumSign_of_ne (rd := env.rd) (sx := sx) (sy := sy))]
  exact rounded_round p env _ (denotes_exact ..)

theorem rounded_fpAdd (ha : ratValue (p.format.unpack x) = some a) (hb : ratValue (p.format.unpack y) = some b) :
    Rounded p env.rd (a + b : ℚ) (fpAdd p.format env x y) := by
  rw [Rat.cast_add]
  exact rounded_addVal ha hb

theorem rounded_fpSub (ha : ratValue (p.format.unpack x) = some a) (hb : ratValue (p.format.unpack y) = some b) :
    Rounded p env.rd (a - b : ℚ) (fpSub p.format env x y) := by
  rw [sub_eq_add_neg, Rat.cast_add]
  exact rounded_addVal ha (ratValue_neg hb)

theorem rounded_fpMul (ha : ratValue (p.format.unpack x) = some a) (hb : ratValue (p.format.unpack y) = some b) :
    Rounded q env.rd (a * b : ℚ) (fpMul p.format q.format env x y) := by
  obtain ⟨sx, mx, ex, hu, hx⟩ := ratValue_eq_some ha
  obtain ⟨sy, my, ey, hv, hy⟩ := ratValue_eq_some hb
  have hexact : (mx : ℝ) * 2 ^ ex * (my * 2 ^ ey) = (mx * my : ℕ) * 2 ^ (ex + ey) := by
    rw [zpow_add₀ two_ne_zero]; push_cast; ring
  rw [fpMul, hu, hv, Rat.cast_mul, hx, hy, signed_mul, hexact]
  exact rounded_round q env _ (denotes_exact ..)

theorem rounded_fpConvert (ha : ratValue (p.format.unpack x) = some a) :
    Rounded q env.rd a (fpConvert p.format q.format env x) := by
  obtain ⟨s, m, e, hu, hx⟩ := ratValue_eq_some ha
  rw [fpConvert, hu, hx]
  exact rounded_round q env _ (denotes_exact ..)

theorem rounded_fpFromInt (q : Prec) (env : FpEnv) (w : Word) : Rounded q env.rd w.toInt (fpFromInt q.format env w) := by
  have hexact := signed_natAbs (s := decide (w.toInt < 0)) (2 ^ (0 : ℤ)) fun _ => rfl
  rw [zpow_zero, mul_one, mul_one] at hexact
  rw [fpFromInt, ← hexact]
  exact rounded_round q env _ (by simp [Denotes])

/-! ### Quotients -/

/-- A quotient cut below more digits than a result keeps. -/
theorem denotes_quotient (f : Format) {mx my : ℕ} (hmy : my ≠ 0) (ex ey : ℤ) :
    Denotes f (mx * 2 ^ (f.fbits + 4 + Nat.log2 my) / my) (ex - ey - (f.fbits + 4 + Nat.log2 my : ℕ))
      (mx * 2 ^ (f.fbits + 4 + Nat.log2 my) % my != 0) (mx * 2 ^ ex / (my * 2 ^ ey)) := by
  have hlarge : mx ≠ 0 → 2 ^ (f.fbits + 1) ≤ mx * 2 ^ (f.fbits + 4 + Nat.log2 my) / my := fun hmx => by
    rw [Nat.le_div_iff_mul_le (Nat.pos_of_ne_zero hmy)]
    calc 2 ^ (f.fbits + 1) * my ≤ 2 ^ (f.fbits + 1) * 2 ^ (Nat.log2 my + 1) := Nat.mul_le_mul_left _ Nat.lt_log2_self.le
      _ = 2 ^ (f.fbits + 1 + (Nat.log2 my + 1)) := (pow_add ..).symm
      _ ≤ 2 ^ (f.fbits + 4 + Nat.log2 my) := Nat.pow_le_pow_right (by decide) (by omega)
      _ ≤ mx * 2 ^ (f.fbits + 4 + Nat.log2 my) := Nat.le_mul_of_pos_left _ (Nat.pos_of_ne_zero hmx)
  generalize f.fbits + 4 + Nat.log2 my = k at hlarge
  have hmy' : (0 : ℝ) < my := by exact_mod_cast Nat.pos_of_ne_zero hmy
  have hexact : (mx : ℝ) * 2 ^ ex / (my * 2 ^ ey) = ((mx * 2 ^ k : ℕ) / my : ℝ) * 2 ^ (ex - ey - (k : ℕ)) := by
    rw [zpow_sub₀ two_ne_zero, zpow_sub₀ two_ne_zero, zpow_natCast]
    push_cast
    field_simp
  have hunit : (0 : ℝ) < 2 ^ (ex - ey - (k : ℕ)) := by positivity
  have hsplit : ((mx * 2 ^ k : ℕ) : ℝ) = my * (mx * 2 ^ k / my : ℕ) + (mx * 2 ^ k % my : ℕ) := by
    exact_mod_cast (Nat.div_add_mod (mx * 2 ^ k) my).symm
  have hrem : ((mx * 2 ^ k % my : ℕ) : ℝ) < my := by exact_mod_cast Nat.mod_lt _ (Nat.pos_of_ne_zero hmy)
  rw [hexact]
  by_cases hzero : mx * 2 ^ k % my = 0
  · rw [hzero, Nat.cast_zero, add_zero] at hsplit
    rw [hzero, hsplit, mul_div_cancel_left₀ _ hmy'.ne']
    exact denotes_exact ..
  · have hpos : (0 : ℝ) < (mx * 2 ^ k % my : ℕ) := by exact_mod_cast Nat.pos_of_ne_zero hzero
    rw [bne_iff_ne.mpr hzero]
    refine ⟨hlarge fun h => hzero (by simp [h]), mul_lt_mul_of_pos_right ?_ hunit, mul_lt_mul_of_pos_right ?_ hunit⟩
    · rw [lt_div_iff₀ hmy']; linarith
    · rw [div_lt_iff₀ hmy']; linarith

theorem rounded_fpDiv (ha : ratValue (p.format.unpack x) = some a) (hb : ratValue (p.format.unpack y) = some b)
    (hne : b ≠ 0) : Rounded p env.rd (a / b : ℚ) (fpDiv p.format env x y) := by
  obtain ⟨sx, mx, ex, hu, hx⟩ := ratValue_eq_some ha
  obtain ⟨sy, my, ey, hv, hy⟩ := ratValue_eq_some hb
  have hmy : my ≠ 0 := by
    rintro rfl
    have : (b : ℝ) = 0 := by rw [hy]; cases sy <;> simp [signed]
    exact hne (by exact_mod_cast this)
  rw [fpDiv, hu, hv]
  dsimp only
  rw [if_neg hmy, Rat.cast_div, hx, hy, signed_div]
  exact rounded_round p env _ (denotes_quotient _ hmy ex ey)

/-! ### Square roots -/

theorem isqrtBits_spec (n : ℕ) : ∀ i r, r * r ≤ n → n < (r + 2 ^ i) * (r + 2 ^ i) →
    isqrtBits n i r * isqrtBits n i r ≤ n ∧ n < (isqrtBits n i r + 1) * (isqrtBits n i r + 1)
  | 0, _, hle, hlt => ⟨hle, hlt⟩
  | i + 1, r, hle, hlt => by
    have hdouble : r + 2 ^ (i + 1) = r + 2 ^ i + 2 ^ i := by rw [pow_succ]; ring
    rw [isqrtBits]
    split
    · next hfits => exact isqrtBits_spec n i _ hfits (hdouble ▸ hlt)
    · next hlarge => exact isqrtBits_spec n i r hle (not_le.mp hlarge)

theorem isqrt_eq_sqrt (n : ℕ) : isqrt n = Nat.sqrt n := by
  have hbound : n < (0 + 2 ^ (Nat.log2 n / 2 + 1)) * (0 + 2 ^ (Nat.log2 n / 2 + 1)) := by
    rw [Nat.zero_add, ← pow_add]
    exact Nat.lt_log2_self.trans_le (Nat.pow_le_pow_right (by decide) (by omega))
  exact Nat.eq_sqrt.mpr (isqrtBits_spec n _ 0 (Nat.zero_le n) hbound)

/-- A square root cut below more digits than a result keeps, of a number written with an even exponent. -/
theorem denotes_root (f : Format) {m : ℕ} (hm : m ≠ 0) (e : ℤ) :
    Denotes f (isqrt (m * 2 ^ (2 * (f.fbits + 4) + (e % 2).toNat)))
      ((e - (2 * (f.fbits + 4) + (e % 2).toNat : ℕ)) / 2)
      (isqrt (m * 2 ^ (2 * (f.fbits + 4) + (e % 2).toNat)) * isqrt (m * 2 ^ (2 * (f.fbits + 4) + (e % 2).toNat)) !=
        m * 2 ^ (2 * (f.fbits + 4) + (e % 2).toNat)) (Real.sqrt (m * 2 ^ e)) := by
  have hhalf : (2 * (f.fbits + 4) + (e % 2).toNat : ℕ) + 2 * ((e - (2 * (f.fbits + 4) + (e % 2).toNat : ℕ)) / 2) = e := by
    omega
  have hlarge : 2 ^ (f.fbits + 1) ≤ Nat.sqrt (m * 2 ^ (2 * (f.fbits + 4) + (e % 2).toNat)) := by
    rw [Nat.le_sqrt, ← pow_add]
    exact (Nat.pow_le_pow_right (by decide) (by omega)).trans (Nat.le_mul_of_pos_left _ (Nat.pos_of_ne_zero hm))
  rw [isqrt_eq_sqrt]
  generalize 2 * (f.fbits + 4) + (e % 2).toNat = k at hhalf hlarge
  generalize (e - (k : ℕ)) / 2 = h at hhalf
  have hexact : Real.sqrt (m * 2 ^ e) = Real.sqrt (m * 2 ^ k : ℕ) * 2 ^ h := by
    rw [← hhalf, zpow_add₀ two_ne_zero, zpow_natCast, ← mul_assoc, Real.sqrt_mul (by positivity), mul_comm 2 h,
      zpow_mul, zpow_ofNat, Real.sqrt_sq (by positivity)]
    push_cast
    rfl
  have hunit : (0 : ℝ) < 2 ^ h := by positivity
  rw [hexact]
  have hle := Nat.sqrt_le (m * 2 ^ k)
  have hlt := Nat.lt_succ_sqrt (m * 2 ^ k)
  generalize m * 2 ^ k = n at *
  by_cases hsquare : Nat.sqrt n * Nat.sqrt n = n
  · have hroot : Real.sqrt n = Nat.sqrt n := by
      rw [Real.sqrt_eq_iff_mul_self_eq (by positivity) (by positivity)]
      exact_mod_cast hsquare.symm
    rw [hsquare, bne_self_eq_false, hroot]
    exact denotes_exact ..
  · have hlt' : Nat.sqrt n * Nat.sqrt n < n := lt_of_le_of_ne hle hsquare
    rw [bne_iff_ne.mpr hsquare]
    refine ⟨hlarge, mul_lt_mul_of_pos_right ?_ hunit, mul_lt_mul_of_pos_right ?_ hunit⟩
    · rw [Real.lt_sqrt (by positivity), sq]
      exact_mod_cast hlt'
    · rw [Real.sqrt_lt' (by positivity), sq]
      exact_mod_cast hlt

theorem rounded_fpSqrt (ha : ratValue (p.format.unpack x) = some a) (h0 : 0 ≤ a) :
    Rounded p env.rd (Real.sqrt a) (fpSqrt p.format env x) := by
  obtain ⟨s, m, e, hu, hx⟩ := ratValue_eq_some ha
  rw [fpSqrt, hu]
  dsimp only
  split
  · next hm =>
    have hroot : Real.sqrt a = signed s 0 := by rw [hx, hm]; cases s <;> simp [signed]
    rw [hroot, ← round_zero p.format env s 0 false]
    exact rounded_round p env s (by simp [Denotes])
  · next hm =>
    have hpos : (0 : ℝ) < m * 2 ^ e := by positivity
    have hsign : s = false := by
      cases s
      · rfl
      · have : (0 : ℝ) ≤ a := by exact_mod_cast h0
        rw [hx, signed, if_pos rfl] at this
        linarith
    rw [if_neg (by simp [hsign]), hx, hsign, signed, if_neg Bool.false_ne_true]
    exact rounded_round p env false (denotes_root _ hm e)

end Sys2Proof.Machine
end

section
/-! Conversions to an integer (49 R418 to R420), compares (49 R447), and the zeros of the operations on numbers. -/

namespace Sys2Proof.Machine

variable {p q : Prec} {f : Format} {env : FpEnv} {u v : FpVal} {a b : ℚ} {x y : ℕ}

/-! ### Conversions to an integer -/

/-- A finite value as a quotient of two natural numbers. -/
theorem ratValue_quotient {s : Bool} {m : ℕ} {e : ℤ} (h : ratValue (.finite s m e) = some a) :
    a = (if s then -1 else 1) * ((m * 2 ^ e.toNat : ℕ) / (2 ^ (-e).toNat : ℕ) : ℚ) := by
  obtain rfl := Option.some.inj h
  have hpow : (2 : ℚ) ^ e = 2 ^ e.toNat / 2 ^ (-e).toNat := by
    rw [← zpow_natCast, ← zpow_natCast, ← zpow_sub₀ two_ne_zero]
    congr 1
    omega
  rw [hpow]
  push_cast
  ring

theorem truncated_quotient (s : Bool) (num den : ℕ) :
    truncated ((if s then -1 else 1) * (num / den : ℚ)) = signedMant s (num / den) := by
  have hfloor : ⌊(num / den : ℚ)⌋ = ((num / den : ℕ) : ℤ) := by
    rw [Rat.floor_natCast_div_natCast, Int.natCast_div]
  have hnonneg : (0 : ℚ) ≤ num / den := by positivity
  cases s
  · simp only [Bool.false_eq_true, if_false, one_mul, truncated, if_pos hnonneg, hfloor, signedMant]
  · simp only [if_true, neg_one_mul, truncated, signedMant, Int.ceil_neg, hfloor]
    split
    · next h =>
      have hzero : (num / den : ℚ) = 0 := by linarith
      rw [← hfloor, hzero]
      simp
    · rfl

/-- A quotient is its own integer part exactly where nothing remains. -/
theorem truncated_eq_self_iff (s : Bool) (num : ℕ) {den : ℕ} (hden : 0 < den) :
    (signedMant s (num / den) : ℚ) = (if s then -1 else 1) * (num / den : ℚ) ↔ num % den = 0 := by
  have hden' : (den : ℚ) ≠ 0 := by positivity
  have hnum : ((num / den : ℕ) : ℚ) = num / den ↔ num % den = 0 := by
    rw [eq_div_iff hden', ← Nat.dvd_iff_mod_eq_zero]
    norm_cast
    exact ⟨fun h => ⟨_, by rw [← h, Nat.mul_comm]⟩, Nat.div_mul_cancel⟩
  rw [← hnum]
  cases s
  · rw [signedMant, if_neg Bool.false_ne_true, if_neg Bool.false_ne_true, one_mul, Int.cast_natCast]
  · rw [signedMant, if_pos rfl, if_pos rfl, neg_one_mul, Int.cast_neg, Int.cast_natCast, neg_inj]

theorem invalidInteger_gives (negative : Option Bool) :
    GivesInvalidInteger negative { bits := .invalidInteger negative, exc := excNV, tiny := false } := by
  refine ⟨rfl, rfl, fun s neg hneg hpolicy => ?_⟩
  subst hneg
  cases neg <;> simp [State.resolve, hpolicy]

theorem fpToInt_number (ha : ratValue (f.unpack x) = some a) :
    if -2147483648 ≤ truncated a ∧ truncated a ≤ 2147483647 then
      (fpToInt f x).bits = .exact (BitVec.ofInt 32 (truncated a)).toNat ∧
        (fpToInt f x).exc = if (truncated a : ℚ) = a then 0 else excNX
    else GivesInvalidInteger (some (decide (a < 0))) (fpToInt f x) := by
  obtain ⟨s, m, e, hu, -⟩ := ratValue_eq_some ha
  rw [hu] at ha
  have hquotient := ratValue_quotient ha
  have htruncated : truncated a = signedMant s (m * 2 ^ e.toNat / 2 ^ (-e).toNat) := by
    rw [hquotient]
    exact truncated_quotient s _ _
  have hself : (truncated a : ℚ) = a ↔ m * 2 ^ e.toNat % 2 ^ (-e).toNat = 0 := by
    rw [htruncated, hquotient]
    exact truncated_eq_self_iff s _ (by positivity)
  rw [fpToInt, hu]
  dsimp only
  rw [← htruncated, if_congr hself rfl rfl]
  split
  · next hfits =>
    rw [if_neg (by omega)]
    exact ⟨rfl, rfl⟩
  · next hlarge =>
    rw [if_pos (by omega)]
    have hne : a ≠ 0 := fun h => hlarge (by simp [h, truncated])
    have hmag : (0 : ℚ) ≤ (m * 2 ^ e.toNat : ℕ) / (2 ^ (-e).toNat : ℕ) := by positivity
    have hsign : decide (a < 0) = s := by
      cases s
      · rw [if_neg Bool.false_ne_true, one_mul] at hquotient
        exact decide_eq_false (by linarith)
      · rw [if_pos rfl, neg_one_mul] at hquotient
        exact decide_eq_true (lt_of_le_of_ne (by linarith) hne)
    rw [hsign]
    exact invalidInteger_gives _

/-! ### Compares -/

theorem relFinite_eq {sx sy : Bool} {mx my : ℕ} {ex ey : ℤ} (ha : ratValue (.finite sx mx ex) = some a)
    (hb : ratValue (.finite sy my ey) = some b) :
    relFinite sx mx ex sy my ey = if a = b then 0 else if a < b then 1 else 2 := by
  obtain ⟨_, _, _, hu, hx⟩ := ratValue_eq_some ha
  obtain ⟨_, _, _, hv, hy⟩ := ratValue_eq_some hb
  cases hu
  cases hv
  have hunit : (0 : ℝ) < 2 ^ min ex ey := by positivity
  rw [← aligned_mul sx mx (min_le_left ex ey)] at hx
  rw [← aligned_mul sy my (min_le_right ex ey)] at hy
  unfold relFinite
  dsimp only
  generalize signedMant sx (mx * 2 ^ (ex - min ex ey).toNat) = i at hx ⊢
  generalize signedMant sy (my * 2 ^ (ey - min ex ey).toNat) = j at hy ⊢
  have heq : i = j ↔ a = b := by
    rw [← Rat.cast_inj (α := ℝ), hx, hy, mul_left_inj' hunit.ne', Int.cast_inj]
  have hlt : i < j ↔ a < b := by
    rw [← Rat.cast_lt (K := ℝ), hx, hy, mul_lt_mul_iff_left₀ hunit, Int.cast_lt]
  rw [if_congr heq rfl (if_congr hlt rfl rfl)]

theorem fpCompare_number (ha : ratValue (f.unpack x) = some a) (hb : ratValue (f.unpack y) = some b) (quiet : Bool) :
    fpCompare f quiet x y = (if a = b then 0 else if a < b then 1 else 2, 0) := by
  obtain ⟨sx, mx, ex, hu, -⟩ := ratValue_eq_some ha
  obtain ⟨sy, my, ey, hv, -⟩ := ratValue_eq_some hb
  rw [hu] at ha
  rw [hv] at hb
  rw [fpCompare, hu, hv, fpRelation, relFinite_eq ha hb]
  rfl

/-! ### Zeros -/

theorem givesZero_signBits (p : Prec) (s : Bool) : GivesZero p s (.ok (p.format.signBits s)) := by
  have hpos := infBits_gt_one (prec_ebits p) (prec_fbits p)
  obtain ⟨hmod, hsign⟩ := signBits_fields p.format s (Nat.zero_lt_of_lt (infBits_lt p.format))
  rw [Nat.add_zero] at hmod hsign
  obtain ⟨m, e, hunpack, hmag⟩ := unpack_of_lt (f := p.format) (b := p.format.signBits s) (by omega)
  rw [hmod, magnitude_zero] at hmag
  have hm : m = 0 := by
    have := (mul_eq_zero.mp hmag).resolve_right (by positivity)
    exact_mod_cast this
  exact ⟨rfl, _, e, rfl, by rw [hunpack, hsign, hm]⟩

theorem givesZero_round (p : Prec) (env : FpEnv) (s : Bool) (e : ℤ) (sticky : Bool) :
    GivesZero p s (p.format.round env s 0 e sticky) := givesZero_signBits p s

/-- Opposite numbers have the zero sum whose sign is theirs, or that of the direction (R433). -/
theorem givesZero_addVal {su sv : Bool} {mu mv : ℕ} {eu ev : ℤ} (ha : ratValue (.finite su mu eu) = some a)
    (hb : ratValue (.finite sv mv ev) = some (-a)) :
    GivesZero p (if su = sv then su else env.rd == 3) (p.format.addVal env (.finite su mu eu) (.finite sv mv ev)) := by
  obtain ⟨_, _, _, hu, hx⟩ := ratValue_eq_some ha
  obtain ⟨_, _, _, hv, hy⟩ := ratValue_eq_some hb
  cases hu
  cases hv
  have hsum : alignedSum su mu eu sv mv ev = 0 := by
    have hexact := alignedSum_mul su mu eu sv mv ev
    rw [← hx, ← hy, Rat.cast_neg, add_neg_cancel] at hexact
    exact_mod_cast (mul_eq_zero.mp hexact).resolve_right (by positivity)
  rw [addVal_finite, hsum, sumSign, if_pos rfl]
  exact givesZero_round ..

end Sys2Proof.Machine
end

section
/-! NaNs and infinities (49 R412, R447): which patterns are quiet NaNs, and what the operations make of operands that are no
numbers. -/

namespace Sys2Proof.Machine

variable {p q : Prec} {f : Format} {env : FpEnv} {u v : FpVal} {x y : ℕ}

/-! ### Quiet NaNs -/

theorem infBits_add (f : Format) : f.infBits + 2 ^ f.fbits = 2 ^ (f.ebits + f.fbits) := by
  have hpos : 1 ≤ 2 ^ f.ebits := Nat.one_le_two_pow
  rw [Format.infBits, pow_add, Nat.sub_mul, Nat.one_mul, Nat.sub_add_cancel (Nat.le_mul_of_pos_left _ hpos)]

/-- From the infinity on a pattern, its sign left out, is the infinity's and a fraction. -/
theorem exists_fraction {b : ℕ} (h : f.infBits ≤ b % 2 ^ (f.ebits + f.fbits)) :
    ∃ r < 2 ^ f.fbits, b % 2 ^ (f.ebits + f.fbits) = f.infBits + r := by
  obtain ⟨r, hr⟩ := Nat.exists_eq_add_of_le h
  have hlt := Nat.mod_lt b (show 0 < 2 ^ (f.ebits + f.fbits) by positivity)
  have htop := infBits_add f
  exact ⟨r, by omega, hr⟩

/-- A fraction with its first bit set is a quiet NaN's. -/
theorem unpack_quiet_fraction {b r : ℕ} (hr : r < 2 ^ f.fbits) (hquiet : 2 ^ (f.fbits - 1) ≤ r)
    (hb : b % 2 ^ (f.ebits + f.fbits) = f.infBits + r) : ∃ n, f.unpack b = .nan false n := by
  have hpos : 0 < 2 ^ (f.fbits - 1) := by positivity
  rw [unpack_special hr hb, if_neg (by omega), decide_eq_false (by omega)]
  exact ⟨_, rfl⟩

theorem infBits_le_of_nan {b n : ℕ} {signaling : Bool} (h : f.unpack b = .nan signaling n) :
    f.infBits ≤ n % 2 ^ (f.ebits + f.fbits) := by
  obtain hlt | hge := Nat.lt_or_ge (b % 2 ^ (f.ebits + f.fbits)) f.infBits
  · obtain ⟨m, e, hunpack, -⟩ := unpack_of_lt hlt
    rw [hunpack] at h
    cases h
  · obtain ⟨r, hr, hb⟩ := exists_fraction hge
    rw [unpack_special hr hb] at h
    split at h
    · cases h
    · cases h
      rwa [Nat.mod_mod_of_dvd b (pow_dvd_pow 2 (by omega))]

theorem unpack_quiet (hf : 0 < f.fbits) {b : ℕ} (h : f.infBits ≤ b % 2 ^ (f.ebits + f.fbits)) :
    ∃ n, f.unpack (f.quiet b) = .nan false n := by
  obtain ⟨r, hr, hb⟩ := exists_fraction h
  have hbit : 2 ^ (f.fbits - 1) < 2 ^ f.fbits := Nat.pow_lt_pow_right (by decide) (by omega)
  have hfrac : r ||| 2 ^ (f.fbits - 1) < 2 ^ f.fbits := Nat.or_lt_two_pow hr hbit
  have hbits : f.quiet b % 2 ^ (f.ebits + f.fbits) = f.infBits + (r ||| 2 ^ (f.fbits - 1)) := by
    have hwidth : 2 ^ (f.fbits - 1) < 2 ^ (f.ebits + f.fbits) := Nat.pow_lt_pow_right (by decide) (by omega)
    rw [Format.quiet, Nat.or_mod_two_pow, hb, Nat.mod_eq_of_lt hwidth, Format.infBits, Nat.mul_comm,
      Nat.two_pow_add_eq_or_of_lt hr, Nat.two_pow_add_eq_or_of_lt hfrac, Nat.or_assoc]
  exact unpack_quiet_fraction hfrac Nat.right_le_or hbits

theorem unpack_toNan (hf : 0 < f.fbits) (b : ℕ) : ∃ n, f.unpack (f.toNan b) = .nan false n := by
  refine unpack_quiet hf ?_
  rw [Nat.or_mod_two_pow, Nat.mod_eq_of_lt (infBits_lt f)]
  exact Nat.right_le_or

theorem unpack_defaultNan (hf : 0 < f.fbits) : ∃ n, f.unpack f.defaultNan = .nan false n := by
  have hpos : 0 < 2 ^ f.fbits := by positivity
  have hbit : 2 ^ (f.fbits - 1) < 2 ^ f.fbits := Nat.pow_lt_pow_right (by decide) (by omega)
  have htop := infBits_add f
  refine unpack_quiet_fraction (r := 2 ^ f.fbits - 1) (by omega) (by omega) ?_
  rw [Format.defaultNan, Nat.mod_eq_of_lt (by omega)]
  omega

/-! ### What the results give -/

theorem givesInvalid (p : Prec) : GivesInvalid p .invalid := by
  refine ⟨rfl, fun s => ?_⟩
  have hdefault : p.format.defaultNan = 2 ^ (precWidth p - 1) - 1 := by cases p <;> rfl
  cases hpolicy : s.cfg.nanPolicy with
  | suggested =>
    simp only [FpResult.invalid, State.resolve, hpolicy]
    exact ⟨unpack_defaultNan (prec_fbits p), fun n hn _ => hdefault.trans (Option.some.inj hn)⟩
  | unconstrained =>
    simp only [FpResult.invalid, State.resolve, hpolicy]
    exact ⟨unpack_toNan (prec_fbits p) _, fun n _ h => by cases h⟩

theorem givesOperandNan {n : ℕ} {signaling : Bool} (h : p.format.infBits ≤ n % 2 ^ (p.format.ebits + p.format.fbits)) :
    GivesOperandNan p (some n) signaling
      { bits := .operandNan (p.format.quiet n), exc := if signaling then excNV else 0, tiny := false } := by
  refine ⟨rfl, fun s => ?_⟩
  cases hpolicy : s.cfg.nanPolicy with
  | suggested =>
    simp only [State.resolve, hpolicy]
    exact ⟨unpack_quiet (prec_fbits p) h, fun k hk _ => Option.some.inj hk⟩
  | unconstrained =>
    simp only [State.resolve, hpolicy]
    exact ⟨unpack_toNan (prec_fbits p) _, fun n _ h => by cases h⟩

theorem givesConvertedNan {r : FpResult} {signaling : Bool} (hbits : r.bits = .convertedNan)
    (hexc : r.exc = if signaling then excNV else 0) : GivesOperandNan p none signaling r := by
  refine ⟨hexc, fun s => ?_⟩
  simp only [hbits, State.resolve]
  exact ⟨unpack_toNan (prec_fbits p) _, fun n hn _ => by cases hn⟩

theorem givesInf (p : Prec) (sign : Bool) (exc : BitVec 5) :
    GivesInf p sign exc { bits := .exact (p.format.signBits sign + p.format.infBits), exc := exc, tiny := false } :=
  ⟨rfl, _, rfl, unpack_infBits _ sign⟩

/-! ### NaN operands -/

/-- The patterns a NaN operand has. -/
def NanBits (f : Format) : FpVal → Prop
  | .nan _ n => f.infBits ≤ n % 2 ^ (f.ebits + f.fbits)
  | .inf _ => True
  | .finite _ _ _ => True

theorem nanBits_unpack (f : Format) (b : ℕ) : NanBits f (f.unpack b) := by
  cases h : f.unpack b with
  | nan signaling n => exact infBits_le_of_nan h
  | inf s => trivial
  | finite s m e => trivial

theorem nanResult_gives (hu : NanBits p.format u) (hv : NanBits p.format v) (h : u.isNan || v.isNan) :
    GivesOperandNan p (suggestedNan u v) (u.isSignaling || v.isSignaling) (nanResult p.format u v) := by
  cases v with
  | nan sv n =>
    cases u with
    | nan su k => exact givesOperandNan hv
    | inf s => exact givesOperandNan hv
    | finite s m e => exact givesOperandNan hv
  | inf s =>
    cases u with
    | nan su k => rw [FpVal.isSignaling, FpVal.isSignaling, Bool.or_false]; exact givesOperandNan hu
    | inf s => cases h
    | finite s m e => cases h
  | finite s m e =>
    cases u with
    | nan su k => rw [FpVal.isSignaling, FpVal.isSignaling, Bool.or_false]; exact givesOperandNan hu
    | inf s => cases h
    | finite s m e => cases h

theorem nanResult_neg (f : Format) (u v : FpVal) : nanResult f u v.neg = nanResult f u v := by
  cases u <;> cases v <;> rfl

theorem exists_nan (h : u.isNan || v.isNan) : (∃ s n, u = .nan s n) ∨ ∃ s n, v = .nan s n := by
  cases u with
  | nan s n => exact .inl ⟨s, n, rfl⟩
  | inf s => cases v with
    | nan s n => exact .inr ⟨s, n, rfl⟩
    | inf s => cases h
    | finite s m e => cases h
  | finite s m e => cases v with
    | nan s n => exact .inr ⟨s, n, rfl⟩
    | inf s => cases h
    | finite s m e => cases h

theorem addVal_nan (f : Format) (env : FpEnv) (h : u.isNan || v.isNan) : f.addVal env u v = nanResult f u v := by
  obtain ⟨s, n, rfl⟩ | ⟨s, n, rfl⟩ := exists_nan h
  · cases v <;> rfl
  · cases u <;> rfl

end Sys2Proof.Machine
end

section
/-! O54: what the operations compute, by the kinds of their operands. -/

namespace Sys2Proof.Machine

variable {p q : Prec} {f : Format} {env : FpEnv} {u v : FpVal} {x y : ℕ} {su sv : Bool} {mu mv : ℕ} {eu ev : ℤ}

/-! ### Two numbers -/

theorem givesZero_fpAdd {a : ℚ} (hu : p.format.unpack x = .finite su mu eu) (hv : p.format.unpack y = .finite sv mv ev)
    (ha : ratValue (.finite su mu eu) = some a) (hb : ratValue (.finite sv mv ev) = some (-a)) :
    GivesZero p (if su = sv then su else env.rd == 3) (fpAdd p.format env x y) := by
  rw [fpAdd, hu, hv]
  exact givesZero_addVal ha hb

theorem givesZero_fpSub {a : ℚ} (hu : p.format.unpack x = .finite su mu eu) (hv : p.format.unpack y = .finite sv mv ev)
    (ha : ratValue (.finite su mu eu) = some a) (hb : ratValue (.finite sv mv ev) = some a) :
    GivesZero p (if su = !sv then su else env.rd == 3) (fpSub p.format env x y) := by
  rw [fpSub, hu, hv]
  exact givesZero_addVal ha (ratValue_neg hb)

theorem givesZero_fpMul (hu : p.format.unpack x = .finite su mu eu) (hv : p.format.unpack y = .finite sv mv ev)
    (h : mu = 0 ∨ mv = 0) : GivesZero q (su ^^ sv) (fpMul p.format q.format env x y) := by
  rw [fpMul, hu, hv]
  dsimp only
  rw [Nat.mul_eq_zero.mpr h]
  exact givesZero_round ..

theorem fpDiv_zero (hu : p.format.unpack x = .finite su mu eu) (hv : p.format.unpack y = .finite sv mv ev) :
    if mv = 0 then
      if mu = 0 then GivesInvalid p (fpDiv p.format env x y) else GivesInf p (su ^^ sv) excDZ (fpDiv p.format env x y)
    else mu = 0 → GivesZero p (su ^^ sv) (fpDiv p.format env x y) := by
  rw [fpDiv, hu, hv]
  dsimp only
  split
  · split
    · exact givesInvalid p
    · exact givesInf p _ _
  · rintro rfl
    rw [Nat.zero_mul, Nat.zero_div]
    exact givesZero_round ..

theorem fpSqrt_zero (hu : p.format.unpack x = .finite su mu eu) :
    (mu = 0 → GivesZero p su (fpSqrt p.format env x)) ∧
      (mu ≠ 0 → su = true → GivesInvalid p (fpSqrt p.format env x)) := by
  rw [fpSqrt, hu]
  refine ⟨fun h => ?_, fun h hneg => ?_⟩
  · dsimp only
    rw [if_pos h]
    exact givesZero_signBits p su
  · dsimp only
    rw [if_neg h, if_pos hneg]
    exact givesInvalid p

theorem givesZero_fpConvert (hu : p.format.unpack x = .finite su mu eu) (h : mu = 0) :
    GivesZero q su (fpConvert p.format q.format env x) := by
  rw [fpConvert, hu, h]
  exact givesZero_round ..

/-! ### Infinities -/

theorem addVal_inf_inf (p : Prec) (env : FpEnv) (su sv : Bool) :
    if su = sv then GivesInf p su 0 (p.format.addVal env (.inf su) (.inf sv))
    else GivesInvalid p (p.format.addVal env (.inf su) (.inf sv)) := by
  have hsum : p.format.addVal env (.inf su) (.inf sv) =
      if su = sv then .ok (p.format.signBits su + p.format.infBits) else .invalid := rfl
  rw [hsum]
  split
  · exact givesInf p su 0
  · exact givesInvalid p

theorem infinities (hu : p.format.unpack x = .inf su) (hv : p.format.unpack y = .inf sv) :
    (if su = sv then GivesInf p su 0 (fpAdd p.format env x y) ∧ GivesInvalid p (fpSub p.format env x y)
      else GivesInvalid p (fpAdd p.format env x y) ∧ GivesInf p su 0 (fpSub p.format env x y)) ∧
    GivesInf q (su ^^ sv) 0 (fpMul p.format q.format env x y) ∧ GivesInvalid p (fpDiv p.format env x y) := by
  have hadd := addVal_inf_inf p env su sv
  have hsub := addVal_inf_inf p env su (!sv)
  rw [fpAdd, fpSub, fpMul, fpDiv, hu, hv, FpVal.neg]
  refine ⟨?_, givesInf q _ 0, givesInvalid p⟩
  split
  · next h =>
    rw [if_pos h] at hadd
    rw [if_neg (by simp [h])] at hsub
    exact ⟨hadd, hsub⟩
  · next h =>
    rw [if_neg h] at hadd
    rw [if_pos (Bool.eq_not.mpr h)] at hsub
    exact ⟨hadd, hsub⟩

theorem infinity_number (hu : p.format.unpack x = .inf su) (hv : p.format.unpack y = .finite sv mv ev) :
    GivesInf p su 0 (fpAdd p.format env x y) ∧ GivesInf p su 0 (fpSub p.format env x y) ∧
      GivesInf p (su ^^ sv) 0 (fpDiv p.format env x y) ∧
      if mv = 0 then GivesInvalid q (fpMul p.format q.format env x y)
      else GivesInf q (su ^^ sv) 0 (fpMul p.format q.format env x y) := by
  rw [fpAdd, fpSub, fpMul, fpDiv, hu, hv]
  refine ⟨givesInf p su 0, givesInf p su 0, givesInf p _ 0, ?_⟩
  dsimp only
  split
  · exact givesInvalid q
  · exact givesInf q _ 0

theorem number_infinity (hu : p.format.unpack x = .finite su mu eu) (hv : p.format.unpack y = .inf sv) :
    GivesInf p sv 0 (fpAdd p.format env x y) ∧ GivesInf p (!sv) 0 (fpSub p.format env x y) ∧
      GivesZero p (su ^^ sv) (fpDiv p.format env x y) ∧
      if mu = 0 then GivesInvalid q (fpMul p.format q.format env x y)
      else GivesInf q (su ^^ sv) 0 (fpMul p.format q.format env x y) := by
  rw [fpAdd, fpSub, fpMul, fpDiv, hu, hv]
  refine ⟨givesInf p sv 0, givesInf p _ 0, givesZero_signBits p _, ?_⟩
  dsimp only
  split
  · exact givesInvalid q
  · exact givesInf q _ 0

theorem infinity_alone (hu : p.format.unpack x = .inf su) :
    (if su then GivesInvalid p (fpSqrt p.format env x) else GivesInf p false 0 (fpSqrt p.format env x)) ∧
      GivesInf q su 0 (fpConvert p.format q.format env x) ∧ GivesInvalidInteger (some su) (fpToInt p.format x) := by
  rw [fpSqrt, fpConvert, fpToInt, hu]
  refine ⟨?_, givesInf q su 0, invalidInteger_gives _⟩
  cases su
  · exact ⟨rfl, _, rfl, by simpa [Format.signBits] using unpack_infBits p.format false⟩
  · exact givesInvalid p

/-! ### NaNs -/

theorem nan_alone {signaling : Bool} {n : ℕ} (hu : p.format.unpack x = .nan signaling n) :
    GivesOperandNan p (some n) signaling (fpSqrt p.format env x) ∧
      GivesOperandNan q none signaling (fpConvert p.format q.format env x) ∧
      GivesInvalidInteger none (fpToInt p.format x) := by
  have hbits := infBits_le_of_nan hu
  rw [fpSqrt, fpConvert, fpToInt, hu]
  exact ⟨givesOperandNan hbits, givesConvertedNan rfl rfl, invalidInteger_gives _⟩

theorem fpDiv_nan (h : (f.unpack x).isNan || (f.unpack y).isNan) :
    fpDiv f env x y = nanResult f (f.unpack x) (f.unpack y) := by
  unfold fpDiv
  generalize f.unpack x = u at h ⊢
  generalize f.unpack y = v at h ⊢
  obtain ⟨s, n, rfl⟩ | ⟨s, n, rfl⟩ := exists_nan h
  · cases v <;> rfl
  · cases u <;> rfl

theorem fpMul_nan {src dst : Format} (h : (src.unpack x).isNan || (src.unpack y).isNan) :
    fpMul src dst env x y = if src = dst then nanResult src (src.unpack x) (src.unpack y)
      else { nanResult src (src.unpack x) (src.unpack y) with bits := .convertedNan } := by
  unfold fpMul
  generalize src.unpack x = u at h ⊢
  generalize src.unpack y = v at h ⊢
  obtain ⟨s, n, rfl⟩ | ⟨s, n, rfl⟩ := exists_nan h
  · cases v <;> rfl
  · cases u <;> rfl

theorem prec_format_inj (p q : Prec) : p.format = q.format ↔ p = q := by
  cases p <;> cases q <;> simp [Prec.format]

theorem isNan_neg (u : FpVal) : u.neg.isNan = u.isNan := by cases u <;> rfl

theorem givesOperandNan_two (hu : p.format.unpack x = u) (hv : p.format.unpack y = v) (h : u.isNan || v.isNan) :
    (∀ r ∈ [fpAdd p.format env x y, fpSub p.format env x y, fpDiv p.format env x y],
      GivesOperandNan p (suggestedNan u v) (u.isSignaling || v.isSignaling) r) ∧
    GivesOperandNan q (if p = q then suggestedNan u v else none) (u.isSignaling || v.isSignaling)
      (fpMul p.format q.format env x y) := by
  subst hu hv
  have hresult := nanResult_gives (nanBits_unpack p.format x) (nanBits_unpack p.format y) h
  constructor
  · simp only [List.forall_mem_cons]
    refine ⟨?_, ?_, ?_, by simp⟩
    · rw [fpAdd, addVal_nan _ _ h]
      exact hresult
    · rw [fpSub, addVal_nan _ _ (by rwa [isNan_neg]), nanResult_neg]
      exact hresult
    · rw [fpDiv_nan h]
      exact hresult
  · rw [fpMul_nan h, if_congr (prec_format_inj p q) rfl rfl]
    split
    · next heq => exact heq ▸ hresult
    · exact givesConvertedNan rfl hresult.1

/-! ### Compares -/

theorem fpRelation_nan (h : u.isNan || v.isNan) : fpRelation u v = 3 := by
  obtain ⟨s, n, rfl⟩ | ⟨s, n, rfl⟩ := exists_nan h
  · rfl
  · cases u <;> rfl

theorem signals_eq (quiet : Bool) (u : FpVal) : signals quiet u = (u.isSignaling || quiet && u.isNan) := by
  cases u <;> simp [signals, FpVal.isSignaling, FpVal.isNan]

theorem fpCompare_nan (h : (f.unpack x).isNan || (f.unpack y).isNan) (quiet : Bool) :
    fpCompare f quiet x y =
      (3, if quiet || (f.unpack x).isSignaling || (f.unpack y).isSignaling then excNV else 0) := by
  rw [fpCompare, fpRelation_nan h, signals_eq, signals_eq]
  congr 3
  rw [Bool.eq_iff_iff]
  cases quiet
  · simp
  · simpa using (Bool.or_eq_true _ _).mp h |>.imp .inr .inr

theorem fpCompare_inf_left (hu : f.unpack x = .inf su) (hv : (f.unpack y).isNan = false) (quiet : Bool) :
    fpCompare f quiet x y = (if f.unpack y = .inf su then 0 else if su then 1 else 2, 0) := by
  rw [fpCompare, hu]
  cases hy : f.unpack y with
  | nan signaling n => rw [hy] at hv; cases hv
  | finite s m e => simp [fpRelation, signals]
  | inf s => simp [fpRelation, signals, eq_comm]

theorem fpCompare_inf_right (hu : (f.unpack x).isNan = false) (hv : f.unpack y = .inf sv) (quiet : Bool) :
    fpCompare f quiet x y = (if f.unpack x = .inf sv then 0 else if sv then 2 else 1, 0) := by
  rw [fpCompare, hv]
  cases hx : f.unpack x with
  | nan signaling n => rw [hx] at hu; cases hu
  | finite s m e => simp [fpRelation, signals]
  | inf s => cases s <;> cases sv <;> rfl

/-! ### The obligation -/

/-- Settles O54: each operation on numbers computes its exact result and `round` rounds it; the others by the kinds of their
operands. -/
theorem fpValues : Obligations.FpValues := by
  unfold Obligations.FpValues
  intro p q env x y u v hu hv
  dsimp only
  refine ⟨fun a b ha hb => ?_, fun su sv mu mv eu ev hfu hfv => ?_, fun su mu eu hfu => ?_, fun su sv hiu hiv => ?_,
    fun su sv mv ev hiu hfv => ?_, fun su sv mu eu hfu hiv => ?_, fun su hiu => infinity_alone (hu.trans hiu),
    fun signaling n hnu => nan_alone (hu.trans hnu), fun h => givesOperandNan_two hu hv h, fun quiet => ?_⟩
  case refine_1 =>
    rw [← hu] at ha
    rw [← hv] at hb
    exact ⟨rounded_fpAdd ha hb, rounded_fpSub ha hb, rounded_fpMul ha hb, rounded_fpDiv ha hb, rounded_fpSqrt ha,
      rounded_fpConvert ha, rounded_fpFromInt q env, fpToInt_number ha, fpCompare_number ha hb⟩
  case refine_2 =>
    subst hfu hfv
    exact ⟨fun a ha => ⟨givesZero_fpAdd hu hv ha, givesZero_fpSub hu hv ha⟩, givesZero_fpMul hu hv, fpDiv_zero hu hv⟩
  case refine_3 =>
    have hsqrt := fpSqrt_zero (env := env) (hu.trans hfu)
    exact ⟨fun h => ⟨hsqrt.1 h, givesZero_fpConvert (hu.trans hfu) h⟩, hsqrt.2⟩
  case refine_4 => exact infinities (hu.trans hiu) (hv.trans hiv)
  case refine_5 => exact infinity_number (hu.trans hiu) (hv.trans hfv)
  case refine_6 => exact number_infinity (hu.trans hfu) (hv.trans hiv)
  case refine_7 =>
    subst hu hv
    exact ⟨fun h => fpCompare_nan h quiet, fun su h hn => fpCompare_inf_left h hn quiet,
      fun sv h hn => fpCompare_inf_right hn h quiet⟩

end Sys2Proof.Machine
end
